-- ==== Sys2Proof/Word.lean ====
section
/-! DEFINITION. The bit-level words of the process link (R9) and the plainest arithmetic over the part's whole
numbers: saturating counts and values brought to the nearer end of a range (spec 00_scope, Numbers and arithmetic). -/

namespace Sys2Proof

/-- One byte of a frame on the process link (R9). -/
abbrev Byte := BitVec 8

/-- A command number, 0–255 and wrapping (R9, R157). -/
abbrev CmdNum := BitVec 8

/-- A frame sequence number, 0–65535 and wrapping (R9). -/
abbrev SeqNum := BitVec 16

/-- A stamp or execute-at as a frame carries it: 48 bits of station time (R9). -/
abbrev Stamp := BitVec 48

/-- A saturating count goes up by `d` and stays at `top` once it is there. -/
def satAdd (top d n : Nat) : Nat := min top (n + d)

/-- A tally of 0–65535, saturating, counts one event. -/
def tick16 (n : Nat) : Nat := satAdd 65535 1 n

/-- A count of 0–255, saturating, counts one event. -/
def tick8 (n : Nat) : Nat := satAdd 255 1 n

/-- A value brought to the nearer end of the range `lo`–`hi`. -/
def intoRange (lo hi n : Nat) : Nat := max lo (min hi n)

/-- Both ends of a range belong to it. -/
def within (lo hi n : Nat) : Bool := lo ≤ n && n ≤ hi

end Sys2Proof
end

