-- ==== Sys2Proof/Syntax.lean ====
section
/-! DEFINITION. The commands of the Nodesta TQ-416, one constructor of `Instr` for each row of the opcode table, and
the names and operand records they carry (spec 00_scope, R9, R10, R31, R38, R62, R65, R97, R98, R138, R156, R169,
R174, R187). Numbers that a rule itself judges out of range stay plain numbers here. -/

namespace Sys2Proof

/-- The two Ethernet ports (01_process_link). -/
inductive Port where
  | one
  | two
  deriving DecidableEq, Repr

/-- The two bus sections (00_scope). -/
inductive Bus where
  | a
  | b
  deriving DecidableEq, Repr

/-- A bus set of a capacity check, a SHEDFIT step or a fault record (R97, R98, R193). -/
inductive BusSet where
  | a
  | b
  | both
  deriving DecidableEq, Repr

/-- The sources S1–S4, counted from 0. -/
abbrev Src := Fin 4

/-- The load groups G1–G16, counted from 0. -/
abbrev Grp := Fin 16

/-- The 21 breakers: incomers I1–I4, the coupler K, feeders F1–F16 (R65). -/
inductive Breaker where
  | incomer (s : Src)
  | coupler
  | feeder (g : Grp)
  deriving DecidableEq, Repr

/-- The six measuring points: P1–P4 on the line side of the incomers, PA and PB on the buses (R65). -/
inductive Point where
  | line (s : Src)
  | bus (x : Bus)
  deriving DecidableEq, Repr

/-- The kind of a source in the topology table (R65). -/
inductive SourceKind where
  | unused
  | utility
  | generator
  deriving DecidableEq, Repr

/-- The role of a unit map row, with its index (R10). -/
inductive Role where
  | empty
  | point (p : Point)
  | breaker (b : Breaker)
  | genctl (s : Src)
  | timeMaster
  | manager (k : Fin 2)
  deriving DecidableEq, Repr

/-- The twelve request channels (R83). -/
inductive Channel where
  | fault (x : Bus)
  | lost (x : Bus)
  | shed (x : Bus)
  | operator
  | retn (x : Bus)
  | restore (x : Bus)
  | test
  deriving DecidableEq, Repr

/-- What a command asks of its target (R9, COMMAND body). -/
inductive Action where
  | opn
  | close
  | run
  | stop
  deriving DecidableEq, Repr

/-- The completion mode of a channel (R83). -/
inductive CompletionMode where
  | selfRelease
  | holdForConfirm
  deriving DecidableEq, Repr

/-- The response addressing of the link settings (R8). -/
inductive ResponseAddressing where
  | unicast
  | line
  deriving DecidableEq, Repr

/-- The direction setting of a sync setting set (R138). -/
inductive SyncDirection where
  | any
  | incomingFaster
  deriving DecidableEq, Repr

/-- The twelve condition flags, in the order of the condition table (R191). -/
inductive Flag where
  | unitLost
  | duplicateRole
  | timeUnsynced
  | timeStepDeferred
  | scheduleLate
  | scheduleMissed
  | breakerFailed
  | serviceDue
  | capacityShort
  | restoreBlocked
  | unplannedParallel
  | lockoutActive
  deriving DecidableEq, Repr

/-- The body of a READING frame with the header's stamp (R9). -/
structure RawReading where
  magA  : BitVec 16
  magB  : BitVec 16
  magC  : BitVec 16
  angle : BitVec 16
  freq  : BitVec 16
  valid : Bool
  test  : Bool
  stamp : Stamp
  deriving DecidableEq, Repr

/-- The position a breaker unit reports (R9, STATE body). -/
inductive ReportedPosition where
  | opn
  | closed
  | travel
  | faulty
  deriving DecidableEq, Repr

/-- The trip cause a breaker unit reports (R9). -/
inductive TripCause where
  | none
  | circuit
  | busbar
  deriving DecidableEq, Repr

/-- The echo result a breaker unit reports (R9). -/
inductive EchoResult where
  | noCommand
  | executed
  | refusedLocal
  | refusedNotReady
  | refusedLate
  deriving DecidableEq, Repr

/-- The body of a STATE frame (R9). -/
structure BreakerReport where
  position  : ReportedPosition
  ready     : Bool
  remote    : Bool
  withdrawn : Bool
  trip      : TripCause
  echoNum   : CmdNum
  echo      : EchoResult
  deriving DecidableEq, Repr

/-- The body of a GENSTAT frame (R9). -/
structure GenReport where
  running     : Bool
  ready       : Bool
  eighths     : BitVec 8
  startFailed : Bool
  deriving DecidableEq, Repr

/-- The role an ANNOUNCE names by its code (R9, ANNOUNCE body). -/
inductive RoleCode where
  | point
  | breaker
  | genctl
  | timeMaster
  | manager
  deriving DecidableEq, Repr

/-- An ANNOUNCE frame after the layout check: sender, sequence, claimed role and index (R9, R12). -/
structure AnnounceFrame where
  station : BitVec 8
  seq     : SeqNum
  role    : RoleCode
  index   : BitVec 8
  deriving DecidableEq, Repr

/-- A row of the unit map as it is kept and written (R10): silence limit in ms. -/
structure UnitMapRow where
  station : Fin 255
  role    : Role
  learn   : Bool
  freeze  : Bool
  silence : Nat
  loss    : Nat
  deriving DecidableEq, Repr

/-- A written row of the topology table, of the form its place in the table asks for (R65). -/
inductive TopologyRow where
  | source (kind : SourceKind) (home : Bus)
  | bus (preferred : Option Src)
  | group (bus : Bus)
  deriving DecidableEq, Repr

/-- The mark of a required source (R97). -/
inductive RequiredMark where
  | healthy
  | healthyOrStartable
  deriving DecidableEq, Repr

/-- A template step as a write carries it: a kind and numbers that R99 judges. -/
inductive StepWrite where
  | opn (breaker : Nat) (endParallel : Bool)
  | close (breaker : Nat) (deadBusRequired : Bool)
  | sync (breaker reference incoming set : Nat)
  | waitDead (point limit : Nat) (continueOnTimeout : Bool)
  | dwell (time : Nat)
  | run (source : Nat)
  | stop (source : Nat)
  | waitHealthy (source limit : Nat)
  | shedFit (source : Nat) (buses : Option BusSet)
  | unknown (code : Nat)
  deriving DecidableEq, Repr

/-- A template row as a write carries it (R97, R99); `none` for a bus set outside its values. -/
structure TemplateWrite where
  nameTag   : BitVec 16
  stepCount : Nat
  steps     : List StepWrite
  required  : List (Nat × RequiredMark)
  capacity  : Option (Nat × Option BusSet)
  closed    : Bool
  deriving DecidableEq, Repr

/-- The source settings of one source (R38): times in ms but for the start time limit in s. -/
structure SourceSettings where
  dead       : Nat
  acceptLo   : Nat
  acceptHi   : Nat
  holdLo     : Nat
  holdHi     : Nat
  fAcceptLo  : Nat
  fAcceptHi  : Nat
  fHoldLo    : Nat
  fHoldHi    : Nat
  unbalance  : Nat
  pickup     : Nat
  floor1     : Nat
  floor2     : Nat
  ride1      : Nat
  ride2      : Nat
  ride3      : Nat
  recovery   : Nat
  rated      : Nat
  loading    : Nat
  startLimit : Nat
  deriving DecidableEq, Repr

/-- The breaker settings of one breaker (R62): Tc and To in µs, the margin in ms. -/
structure BreakerSettings where
  tc           : Nat
  topen        : Nat
  margin       : Nat
  serviceLimit : Nat
  deriving DecidableEq, Repr

/-- The bus settings of one bus (R68, R174): dwells and dead-confirm in ms, the others in s. -/
structure BusSettings where
  fShed         : Nat
  fRestore      : Nat
  shedDwell     : Nat
  capacityDwell : Nat
  settle        : Nat
  stagger       : Nat
  live          : Nat
  dead          : Nat
  deadConfirm   : Nat
  returnDelay   : Nat
  retransfer    : Bool
  deriving DecidableEq, Repr

/-- The time settings (R20): in µs but for the holdover limit in s. -/
structure TimeSettings where
  transit       : Nat
  lockBand      : Nat
  stepThreshold : Nat
  slewLimit     : Nat
  holdover      : Nat
  futureStamp   : Nat
  deriving DecidableEq, Repr

/-- One sync setting set (R138). -/
structure SyncSettings where
  dVmax         : Nat
  slipMin       : Nat
  slipMax       : Nat
  angleMax      : Nat
  direction     : SyncDirection
  horizon       : Nat
  retime        : Nat
  skew          : Nat
  timeLimit     : Nat
  parallelLimit : Nat
  deriving DecidableEq, Repr

/-- The schedule settings (R156), in µs. -/
structure ScheduleSettings where
  minLead  : Nat
  sendLead : Nat
  lateTol  : Nat
  horizon  : Nat
  deriving DecidableEq, Repr

/-- A row of the group table as a write carries it (R169). -/
structure GroupWrite where
  demand    : Nat
  rank      : Nat
  manual    : Bool
  clearMark : Bool
  deriving DecidableEq, Repr

/-- The seven tallies of one port (R18). -/
structure PortTallies where
  check        : Nat
  loop         : Nat
  format       : Nat
  unmapped     : Nat
  overflow     : Nat
  discard      : Nat
  responseDrop : Nat
  deriving DecidableEq, Repr

/-- A row of a live table that has no write row of its own in the opcode table (R187). -/
inductive LiveRow where
  | link (addressing : ResponseAddressing)
  | time (row : TimeSettings)
  | point (testAccept : Bool)
  | sync (row : SyncSettings)
  | schedule (row : ScheduleSettings)
  | management (statusPeriod : Nat)
  deriving DecidableEq, Repr

/-- The MANAGER station whose REQUEST is taken, and the request's tag (R9, R185). -/
structure Sender where
  station : BitVec 8
  tag     : BitVec 16
  deriving DecidableEq, Repr

/-- A management request with its arguments, as the Management Unit takes it (R185). A bus is `none` where the
argument names no bus of the part. -/
inductive Request where
  | readRows (table first count : Nat)
  | writeRows (table first : Nat) (rows : List LiveRow)
  | writeUnitMap (first : Nat) (rows : List UnitMapRow)
  | writeTopology (first : Nat) (rows : List TopologyRow)
  | writeTemplates (first : Nat) (rows : List TemplateWrite)
  | writeCandidateLists (first : Nat) (rows : List (List Nat))
  | writeSourceSettings (first : Nat) (rows : List SourceSettings)
  | writeBreakerSettings (first : Nat) (rows : List BreakerSettings)
  | writeBusSettings (first : Nat) (rows : List BusSettings)
  | writeGroupTable (first : Nat) (rows : List GroupWrite)
  | clearPortTallies (first : Nat) (rows : List PortTallies)
  | start
  | halt
  | restart
  | transfer (template : Nat)
  | test (template : Nat)
  | confirm (channel : Nat)
  | setChannel (channel : Nat) (enable mask : Bool) (mode : CompletionMode)
  | ackConditions (flags : List (Option Flag))
  | clearFaults
  | operate (breaker : Nat) (action : Option Action)
  | sourceServiceOut (source : Nat)
  | sourceServiceIn (source : Nat)
  | clearLockout (bus : Option Bus)
  | resetBreaker (breaker : Nat)
  | restoreGroup (group : Nat)
  | identify
  | unknown
  deriving DecidableEq, Repr

/-- The commands of the block: one constructor for each row of spec/opcode_table.json, in the table's order. -/
inductive Instr where
  | powerOn (straps : BitVec 8)
  | frameReceived (port : Port) (checkOk : Bool) (bytes : List Byte)
  | reading (point : Point) (body : RawReading)
  | stateReport (breaker : Breaker) (body : BreakerReport)
  | genstat (source : Src) (body : GenReport)
  | timeFrame (master : Stamp)
  | announce (port : Port) (frame : AnnounceFrame)
  | readRows (sender : Sender) (table first count : Nat)
  | writeRows (sender : Sender) (table first : Nat) (rows : List LiveRow)
  | writeUnitMap (sender : Sender) (first : Nat) (rows : List UnitMapRow)
  | writeTopology (sender : Sender) (first : Nat) (rows : List TopologyRow)
  | writeTemplates (sender : Sender) (first : Nat) (rows : List TemplateWrite)
  | writeCandidateLists (sender : Sender) (first : Nat) (rows : List (List Nat))
  | writeSourceSettings (sender : Sender) (first : Nat) (rows : List SourceSettings)
  | writeBreakerSettings (sender : Sender) (first : Nat) (rows : List BreakerSettings)
  | writeBusSettings (sender : Sender) (first : Nat) (rows : List BusSettings)
  | writeGroupTable (sender : Sender) (first : Nat) (rows : List GroupWrite)
  | clearPortTallies (sender : Sender) (first : Nat) (rows : List PortTallies)
  | start (sender : Sender)
  | halt (sender : Sender)
  | restart (sender : Sender)
  | transfer (sender : Sender) (template : Nat)
  | test (sender : Sender) (template : Nat)
  | confirm (sender : Sender) (channel : Nat)
  | setChannel (sender : Sender) (channel : Nat) (enable mask : Bool) (mode : CompletionMode)
  | ackConditions (sender : Sender) (flags : List (Option Flag))
  | clearFaults (sender : Sender)
  | operate (sender : Sender) (breaker : Nat) (action : Option Action)
  | sourceServiceOut (sender : Sender) (source : Nat)
  | sourceServiceIn (sender : Sender) (source : Nat)
  | clearLockout (sender : Sender) (bus : Option Bus)
  | resetBreaker (sender : Sender) (breaker : Nat)
  | restoreGroup (sender : Sender) (group : Nat)
  | identify (sender : Sender)
  | unknownRequest (sender : Sender)
  | foreignRequest
  | portUp (port : Port)
  | portDown (port : Port)
  | transmitEnd (port : Port)
  | silenceExpiry (row : Fin 32)
  | holdoverExpiry
  | slewInstant
  | pickupExpiry (source : Src)
  | unplannedParallelExpiry (bus : Bus)
  | deadConfirmExpiry (bus : Bus)
  | returnTimerExpiry (bus : Bus)
  | waitdeadTimeout
  | dwellExpiry
  | waithealthyTimeout
  | guardExpiry
  | syncTimeLimitExpiry
  | entryDue (num : CmdNum)
  | operateDeadlineExpiry (num : CmdNum)
  | frequencyStageExpiry (bus : Bus)
  | capacityStageExpiry (bus : Bus)
  | settleExpiry (bus : Bus)
  | staggerExpiry (bus : Bus)
  | statusTimerExpiry
  deriving DecidableEq, Repr

end Sys2Proof
end

