-- ==== Sys2Proof/Config.lean ====
section
/-! DEFINITION. The values that the spec leaves open: constants without a body, so that no proof can see what they
are, and the bound on the work of one event in the model. -/

namespace Sys2Proof.Config

/-- FREE VALUE (log 3). R23 says that the instants of a slew are evenly spaced over the slew interval, and does not
say where the first of them lies. The argument is a count that the model keeps. -/
opaque slewPhase : Nat → Nat

/-- FREE VALUE (log 4). Where several timers expire at one microsecond the rules take them in either order. The
argument is a count that the model keeps. -/
opaque tieOrder : Nat → Nat

/-- FREE VALUE (log 5). R9 gives a REQUEST's tag and request name byte by byte, and not the bytes of its arguments.
The first argument is the request name's code, the second the bytes after it. -/
opaque requestArguments : Nat → List Byte → Option Request

/-- How many of an event's hand-offs the model works through before it puts the rest of the event off to the next
step (log 2). No rule bounds an event. -/
def eventBound : Nat := 4096

end Sys2Proof.Config
end

