-- ==== Sys2Proof/Decode.lean ====
section
/-! DEFINITION. The part's numbering of sources, breakers, points, groups, buses and channels (00_scope, R65, R83), the
reading of a frame's bytes (R2, R3, R9), and `decodeTableWord`. The opcode table gives no row any bits. -/

namespace Sys2Proof

/-! ### Numbering -/

/-- The breakers by their index, breaker number less 1 (00_scope, Breakers). -/
def Breaker.idx : Breaker → Fin 21
  | .incomer s => ⟨s.val, by omega⟩
  | .coupler => 4
  | .feeder g => ⟨g.val + 5, by omega⟩

/-- The number of a breaker, 1–21. -/
def Breaker.number (b : Breaker) : Nat := b.idx.val + 1

/-- The breaker that has a number, if one has. -/
def Breaker.ofNumber (n : Nat) : Option Breaker :=
  if h : 1 ≤ n ∧ n ≤ 4 then some (.incomer ⟨n - 1, by omega⟩)
  else if n = 5 then some .coupler
  else if h : 6 ≤ n ∧ n ≤ 21 then some (.feeder ⟨n - 6, by omega⟩)
  else none

/-- The points by their index, 0–5 for P1–P4, PA, PB. -/
def Point.idx : Point → Fin 6
  | .line s => ⟨s.val, by omega⟩
  | .bus .a => 4
  | .bus .b => 5

/-- The point that has a number 1–6, if one has. -/
def Point.ofNumber (n : Nat) : Option Point :=
  if h : 1 ≤ n ∧ n ≤ 4 then some (.line ⟨n - 1, by omega⟩)
  else if n = 5 then some (.bus .a)
  else if n = 6 then some (.bus .b)
  else none

/-- The item of a list numbered from 1 to `k`, as an index. -/
def indexOf (k n : Nat) : Option (Fin k) :=
  if h : 1 ≤ n ∧ n ≤ k then some ⟨n - 1, by omega⟩ else none

/-- The source that has a number 1–4. -/
def srcOfNumber (n : Nat) : Option Src := indexOf 4 n

/-- The group that has a number 1–16. -/
def grpOfNumber (n : Nat) : Option Grp := indexOf 16 n

/-- The number of a channel, which is also its priority (R83). -/
def Channel.idx : Channel → Fin 12
  | .fault .a => 11
  | .fault .b => 10
  | .lost .a => 9
  | .lost .b => 8
  | .shed .a => 7
  | .shed .b => 6
  | .operator => 5
  | .retn .a => 4
  | .retn .b => 3
  | .restore .a => 2
  | .restore .b => 1
  | .test => 0

/-- The channels from the highest number to the lowest (R83). -/
def Channel.descending : List Channel :=
  [.fault .a, .fault .b, .lost .a, .lost .b, .shed .a, .shed .b, .operator, .retn .a, .retn .b, .restore .a,
    .restore .b, .test]

/-- The channel that has a number 0–11, if one has. -/
def Channel.ofNumber (n : Nat) : Option Channel := Channel.descending.find? (fun c => c.idx.val == n)

/-- The bus a channel serves, where it serves one (R109). -/
def Channel.bus? : Channel → Option Bus
  | .fault x | .lost x | .shed x | .retn x | .restore x => some x
  | .operator | .test => none

/-- The place of a channel's candidate list in its table (R100). -/
def Channel.listIdx : Channel → Option (Fin 6)
  | .fault .a => some 0
  | .fault .b => some 1
  | .lost .a => some 2
  | .lost .b => some 3
  | .retn .a => some 4
  | .retn .b => some 5
  | _ => none

/-- The channel whose candidate list stands in a row of its table (R100). -/
def listChannel (i : Fin 6) : Channel :=
  match i.val with
  | 0 => .fault .a
  | 1 => .fault .b
  | 2 => .lost .a
  | 3 => .lost .b
  | 4 => .retn .a
  | _ => .retn .b

/-- The role an ANNOUNCE claims (R9, R12): none where no row of the unit map can hold it. -/
def claimedRole (r : RoleCode) (index : Nat) : Option Role :=
  match r with
  | .point => (Point.ofNumber index).map .point
  | .breaker => (Breaker.ofNumber index).map .breaker
  | .genctl => (srcOfNumber index).map .genctl
  | .timeMaster => if index = 1 then some .timeMaster else none
  | .manager => (indexOf 2 index).map .manager

/-! ### The bytes of a frame (R9): multi-byte fields most significant byte first -/

/-- A field of a frame: its bytes as one number, most significant first. -/
def beNat (bytes : List Byte) : Nat := bytes.foldl (fun acc b => acc * 256 + b.toNat) 0

/-- `n` bytes that carry a number, most significant first. -/
def beBytes : Nat → Nat → List Byte
  | 0, _ => []
  | n + 1, v => beBytes n (v / 256) ++ [BitVec.ofNat 8 v]

/-- The field of `n` bytes at an offset, where the frame reaches that far. -/
def fieldAt (bytes : List Byte) (off n : Nat) : Option Nat :=
  if off + n ≤ bytes.length then some (beNat ((bytes.drop off).take n)) else none

/-- The header a frame carries after its addresses and type (R9). -/
structure Header where
  station : BitVec 8
  seq     : SeqNum
  stamp   : Stamp
  deriving DecidableEq, Repr

/-- The body of a frame that the part takes in (R9). -/
inductive Body where
  | reading (body : RawReading)
  | state (body : BreakerReport)
  | genstat (body : GenReport)
  | time (master : Stamp)
  | announce (role : RoleCode) (index : BitVec 8)
  | request (tag : BitVec 16) (name : Nat) (arguments : List Byte)
  deriving DecidableEq, Repr

/-- The station address 02-4E-53-00-00-nn (R1). -/
def stationAddress (nn : BitVec 8) : List Byte := [0x02, 0x4E, 0x53, 0x00, 0x00, nn]

/-- The line multicast address (R1). -/
def lineMulticast : List Byte := [0x03, 0x4E, 0x53, 0x00, 0x00, 0x00]

/-- The Ethernet broadcast address (R1). -/
def broadcast : List Byte := [0xFF, 0xFF, 0xFF, 0xFF, 0xFF, 0xFF]

/-- The Ethernet frame type of every Nodesta frame (R9). -/
def nodestaType : Nat := 0x9A40

/-- The length of the Nodesta header (R9, bytes 0–23). -/
def headerLength : Nat := 24

/-- A field with named values 0 no and 1 yes (R9, GENSTAT body). -/
def yesNo : Nat → Option Bool
  | 0 => some false
  | 1 => some true
  | _ => none

/-- The named positions of a STATE body (R9). -/
def positionCode : Nat → Option ReportedPosition
  | 0 => some .opn
  | 1 => some .closed
  | 2 => some .travel
  | 3 => some .faulty
  | _ => none

/-- The named trip causes of a STATE body (R9). -/
def tripCode : Nat → Option TripCause
  | 0 => some .none
  | 1 => some .circuit
  | 2 => some .busbar
  | _ => none

/-- The named echo results of a STATE body (R9). -/
def echoCode : Nat → Option EchoResult
  | 0 => some .noCommand
  | 1 => some .executed
  | 2 => some .refusedLocal
  | 3 => some .refusedNotReady
  | 4 => some .refusedLate
  | _ => none

/-- The named roles of an ANNOUNCE body (R9). -/
def roleCode : Nat → Option RoleCode
  | 1 => some .point
  | 2 => some .breaker
  | 3 => some .genctl
  | 4 => some .timeMaster
  | 5 => some .manager
  | _ => none

/-- The header of a frame that is long enough to hold one (R9, bytes 14–23). -/
def headerOf (bytes : List Byte) : Option Header := do
  let station ← fieldAt bytes 15 1
  let seq ← fieldAt bytes 16 2
  let stamp ← fieldAt bytes 18 6
  some ⟨BitVec.ofNat 8 station, BitVec.ofNat 16 seq, BitVec.ofNat 48 stamp⟩

/-- A READING body, bytes 24–34 (R9). -/
def readingBody (bytes : List Byte) (stamp : Stamp) : Option Body := do
  let a ← fieldAt bytes 24 2
  let b ← fieldAt bytes 26 2
  let c ← fieldAt bytes 28 2
  let angle ← fieldAt bytes 30 2
  let f ← fieldAt bytes 32 2
  let q ← fieldAt bytes 34 1
  some (.reading ⟨BitVec.ofNat 16 a, BitVec.ofNat 16 b, BitVec.ofNat 16 c, BitVec.ofNat 16 angle, BitVec.ofNat 16 f,
    q.testBit 0, q.testBit 1, stamp⟩)

/-- A STATE body, bytes 24–28 (R9). -/
def stateBody (bytes : List Byte) : Option Body := do
  let position ← (fieldAt bytes 24 1).bind positionCode
  let flags ← fieldAt bytes 25 1
  let trip ← (fieldAt bytes 26 1).bind tripCode
  let num ← fieldAt bytes 27 1
  let echo ← (fieldAt bytes 28 1).bind echoCode
  some (.state ⟨position, flags.testBit 0, flags.testBit 1, flags.testBit 2, trip, BitVec.ofNat 8 num, echo⟩)

/-- A GENSTAT body, bytes 24–27 (R9). -/
def genstatBody (bytes : List Byte) : Option Body := do
  let running ← (fieldAt bytes 24 1).bind yesNo
  let ready ← (fieldAt bytes 25 1).bind yesNo
  let eighths ← fieldAt bytes 26 1
  let startFailed ← (fieldAt bytes 27 1).bind yesNo
  some (.genstat ⟨running, ready, BitVec.ofNat 8 eighths, startFailed⟩)

/-- A TIME body, bytes 24–29 (R9). -/
def timeBody (bytes : List Byte) : Option Body :=
  (fieldAt bytes 24 6).map (fun t => .time (BitVec.ofNat 48 t))

/-- An ANNOUNCE body, bytes 24–26, whose station is the header's (R3, R9). -/
def announceBody (bytes : List Byte) (station : BitVec 8) : Option Body := do
  let n ← fieldAt bytes 24 1
  let role ← (fieldAt bytes 25 1).bind roleCode
  let index ← fieldAt bytes 26 1
  if n = station.toNat then some (.announce role (BitVec.ofNat 8 index)) else none

/-- A REQUEST body: tag and request name, bytes 24–26, and whatever follows (R9). -/
def requestBody (bytes : List Byte) : Option Body := do
  let tag ← fieldAt bytes 24 2
  let name ← fieldAt bytes 26 1
  some (.request (BitVec.ofNat 16 tag) name (bytes.drop 27))

/-- The layout check of a frame taken in (R3): the header and body of a frame that passes it. COMMAND, RESPONSE and
STATUS (6, 8, 9) and unlisted kind codes fail it. -/
def frameOf (bytes : List Byte) : Option (Header × Body) := do
  let h ← headerOf bytes
  let kind ← fieldAt bytes 14 1
  let body ←
    match kind with
    | 1 => readingBody bytes h.stamp
    | 2 => stateBody bytes
    | 3 => genstatBody bytes
    | 4 => timeBody bytes
    | 5 => announceBody bytes h.station
    | 7 => requestBody bytes
    | _ => none
  some (h, body)

/-- The code of a request's name (R9, REQUEST body); 0 for the refused form. -/
def Request.nameCode : Request → Nat
  | .readRows .. => 1
  | .writeRows .. => 2
  | .writeUnitMap .. => 2
  | .writeTopology .. => 2
  | .writeTemplates .. => 2
  | .writeCandidateLists .. => 2
  | .writeSourceSettings .. => 2
  | .writeBreakerSettings .. => 2
  | .writeBusSettings .. => 2
  | .writeGroupTable .. => 2
  | .clearPortTallies .. => 2
  | .start => 3
  | .halt => 4
  | .restart => 5
  | .transfer _ => 6
  | .test _ => 7
  | .confirm _ => 8
  | .setChannel .. => 9
  | .ackConditions _ => 10
  | .clearFaults => 11
  | .operate .. => 12
  | .sourceServiceOut _ => 13
  | .sourceServiceIn _ => 13
  | .clearLockout _ => 14
  | .resetBreaker _ => 15
  | .restoreGroup _ => 16
  | .identify => 17
  | .unknown => 0

/-- The request a REQUEST frame carries (R9, R185). A name outside the list, or arguments missing or of the wrong
form, give the form that the Management Unit refuses with VALUE. -/
def requestOf (name : Nat) (arguments : List Byte) : Request :=
  match name with
  | 3 => .start
  | 4 => .halt
  | 5 => .restart
  | 11 => .clearFaults
  | 17 => .identify
  | _ =>
    if within 1 17 name then
      match Config.requestArguments name arguments with
      | some r => if r.nameCode = name then r else .unknown
      | none => .unknown
    else .unknown

/-- The command that a word spells by the opcode table's bits: the table gives no row any bits, so none. -/
def decodeTableWord (_nbits _w : Nat) : Option Instr := none

end Sys2Proof
end

