-- ==== Sys2Proof/Machine/State.lean ====
section
/-! DEFINITION. Everything the part keeps, as plain data, with its values at POWER-ON, and the hand-offs of an event.
A duration, an elapsed time and a station time are whole numbers of microseconds unless a field says otherwise. -/

namespace Sys2Proof.Machine

/-- No command of the block faults: every row of the opcode table has its effect in every state, so nothing raises a
fault. An empty type is safe: no claim can rest on a fault that does not arise. -/
inductive Fault where
  deriving DecidableEq, Repr

/-- Why a command has no meaning here. -/
inductive Refusal where
  /-- Raised by an arm of `exec` whose command has no meaning yet. Safe: the machine stops. No arm raises it. -/
  | notModelled (mnemonic : String)
  deriving DecidableEq, Repr

/-- One value for each bus. -/
structure PerBus (α : Type) where
  a : α
  b : α
  deriving DecidableEq, Repr

/-- The value of one bus. -/
def PerBus.get {α : Type} (v : PerBus α) : Bus → α
  | .a => v.a
  | .b => v.b

/-- The values with that of one bus replaced. -/
def PerBus.set {α : Type} (v : PerBus α) (x : Bus) (y : α) : PerBus α :=
  match x with
  | .a => { v with a := y }
  | .b => { v with b := y }

/-- One value for each port. -/
structure PerPort (α : Type) where
  one : α
  two : α
  deriving DecidableEq, Repr

/-- The value of one port. -/
def PerPort.get {α : Type} (v : PerPort α) : Port → α
  | .one => v.one
  | .two => v.two

/-- The values with that of one port replaced. -/
def PerPort.set {α : Type} (v : PerPort α) (p : Port) (y : α) : PerPort α :=
  match p with
  | .one => { v with one := y }
  | .two => { v with two := y }

/-- A timer (R27): stopped, keeping no elapsed time, or running with what it has counted and the duration it was
started with. -/
inductive Timer where
  | stopped
  | running (elapsed duration : Nat)
  deriving DecidableEq, Repr

/-! ### Names that records hold -/

/-- The position of a breaker as the Monitor holds it (R57). -/
inductive Position where
  | opn
  | closed
  | travel
  | unknown
  | faulty
  deriving DecidableEq, Repr

/-- The seven source states (R42). -/
inductive SourceState where
  | out
  | dead
  | rising
  | healthy
  | riding
  | failed
  | blind
  deriving DecidableEq, Repr

/-- The depth classes (R41). -/
inductive DepthClass where
  | c1
  | c2
  | c3
  deriving DecidableEq, Repr

/-- How an excursion ended (R51). -/
inductive ExcursionOutcome where
  | recovered
  | failed
  | abandoned
  deriving DecidableEq, Repr

/-- The live state of a bus (R68). -/
inductive LiveState where
  | live
  | dead
  | part
  | blind
  deriving DecidableEq, Repr

/-- The feed state of a bus (R66). -/
inductive FeedState where
  | unfed
  | fed (s : Src)
  | parallel
  deriving DecidableEq, Repr

/-- The time state (R20). -/
inductive TimeState where
  | unsynced
  | locking
  | locked
  | holdover
  deriving DecidableEq, Repr

/-- The state of a unit record (R13). -/
inductive UnitState where
  | absent
  | active
  | lost
  deriving DecidableEq, Repr

/-- The run mode (R78). -/
inductive RunMode where
  | halted
  | auto
  deriving DecidableEq, Repr

/-- The abort order (R78). -/
inductive AbortOrder where
  | none
  | preempt
  deriving DecidableEq, Repr

/-- How a channel is engaged (R83). -/
inductive Engaged where
  | no
  | running
  | held
  deriving DecidableEq, Repr

/-- Why a step, a plan or an attempt failed (R118, R129, R139). -/
inductive Reason where
  | breakerTimeout
  | breakerLost
  | interlock
  | syncTimeout
  | waitTimeout
  | capacity
  | genStartTimeout
  | genStartFailed
  | genStopTimeout
  | commandMissed
  | parallelTimeout
  | notDead
  | refusedLocal
  | refusedNotReady
  | refusedLate
  | timeNotLocked
  | parallelBusy
  | full
  | window
  | evicted
  | abandoned
  deriving DecidableEq, Repr

/-- Why the Monitor blocks a command (R76, R77). -/
inductive BlockCause where
  | failed
  | twoSources
  | lockout
  | withdrawn
  | notRemote
  | notReady
  deriving DecidableEq, Repr

/-- How an entry of the schedule ended (R155, R168). CANCELLED is only reported for an eviction. -/
inductive EntryOutcome where
  | confirmed
  | refused (reason : Reason)
  | timedOut
  | unconfirmed
  | missed
  | blocked (cause : BlockCause)
  | cancelled
  deriving DecidableEq, Repr

/-- The abort cause of a plan (R114). -/
inductive AbortCause where
  | preempt
  | halt
  deriving DecidableEq, Repr

/-- A plan's outcome in its record (R116). -/
inductive PlanOutcome where
  | completed
  | failed (reason : Reason)
  | aborted (cause : AbortCause)
  deriving DecidableEq, Repr

/-- A channel's last outcome (R83). -/
inductive ChannelOutcome where
  | completed
  | failed (reason : Reason)
  | aborted
  | noPath
  | superseded
  deriving DecidableEq, Repr

/-- A template by its number less 1, or a built-in plan (R83). -/
inductive TemplateRef where
  | number (n : Fin 24)
  | builtIn
  deriving DecidableEq, Repr

/-- A step of a template (R98). -/
inductive Step where
  | opn (b : Breaker) (endParallel : Bool)
  | close (b : Breaker) (deadBusRequired : Bool)
  | sync (b : Breaker) (reference incoming : Point) (set : Fin 4)
  | waitDead (p : Point) (limit : Nat) (continueOnTimeout : Bool)
  | dwell (time : Nat)
  | run (s : Src)
  | stop (s : Src)
  | waitHealthy (s : Src) (limit : Nat)
  | shedFit (s : Src) (buses : BusSet)
  deriving DecidableEq, Repr

/-- The fourteen fault kinds, in the order of R193. -/
inductive FaultKind where
  | breakerTimeout
  | breakerLost
  | interlock
  | syncTimeout
  | parallelTimeout
  | genStartTimeout
  | waitTimeout
  | capacity
  | noPath
  | commandMissed
  | unitLost
  | busFault
  | sourceFailed
  | uncommandedOpen
  deriving DecidableEq, Repr

/-! ### Process Link -/

/-- What a command acts on (R155). -/
inductive Target where
  | breaker (b : Breaker)
  | source (s : Src)
  deriving DecidableEq, Repr

/-- Where one of the part's own frames is sent (R8). -/
inductive Destination where
  | station (nn : BitVec 8)
  | line
  | broadcast
  deriving DecidableEq, Repr

/-- What the header of a frame the part makes carries beside its kind (R7–R9): the destination, the part's own station
number, the sequence number and the stamp. -/
structure OwnHeader where
  dest    : Destination
  station : BitVec 8
  seq     : SeqNum
  stamp   : Nat
  deriving DecidableEq, Repr

/-- A Command frame the part made (R7–R9). -/
structure CommandFrame where
  head      : OwnHeader
  num       : CmdNum
  target    : Target
  action    : Action
  executeAt : Nat
  deriving DecidableEq, Repr

/-- A unit record (R13). -/
structure UnitRecord where
  state    : UnitState
  expected : SeqNum
  miss     : Nat
  goodRun  : Nat
  rejoin   : Nat
  last     : Option Nat
  stale    : Nat
  silence  : Timer
  deriving DecidableEq, Repr

/-! ### Station Time -/

/-- The Time Base (R19, R20, R23, R25, R26). `withhold` counts the counts of the clock still to be withheld.
`everLocked` says whether it has been LOCKED since the last reset. The slew fields describe the slew in progress. -/
structure TimeBase where
  now          : Nat
  state        : TimeState
  lastError    : Option Int
  correction   : Int
  slewTotal    : Nat
  slewInterval : Nat
  slewElapsed  : Nat
  slewSeed     : Nat
  withhold     : Nat
  stepDeferred : Bool
  stepTally    : Nat
  lastStep     : Option Int
  timeTally    : Nat
  rangeTally   : Nat
  lastFrame    : Option Nat
  everLocked   : Bool
  holdover     : Timer
  settings     : TimeSettings
  deriving DecidableEq, Repr

/-! ### Readings and Source Supervision -/

/-- A reading as the point record keeps it (R30, R33). -/
structure Reading where
  magA    : Nat
  magB    : Nat
  magC    : Nat
  angle   : Nat
  freq    : Nat
  valid   : Bool
  test    : Bool
  clamped : Bool
  stamp   : Nat
  deriving DecidableEq, Repr

/-- A point record (R30), with the point's test-accept setting (R31). -/
structure PointRecord where
  seen        : Bool
  latest      : Option Reading
  latestValid : Option Reading
  lastStamp   : Option Nat
  invalidRun  : Nat
  testTally   : Nat
  futureTally : Nat
  oldTally    : Nat
  clampTally  : Nat
  testAccept  : Bool
  deriving DecidableEq, Repr

/-- An excursion in progress (R47). The classes seen are the three marks. -/
structure Excursion where
  start        : Nat
  seen1        : Bool
  seen2        : Bool
  seen3        : Bool
  deepest      : Nat
  deepestClass : DepthClass
  run          : Nat
  runStart     : Option Nat
  last         : Nat
  deriving DecidableEq, Repr

/-- A record of the excursion history (R51): duration in ms. -/
structure ExcursionRecord where
  start        : Nat
  duration     : Nat
  deepest      : Nat
  deepestClass : DepthClass
  outcome      : ExcursionOutcome
  deriving DecidableEq, Repr

/-- A generator record (R53). -/
structure GenRecord where
  running     : Bool
  ready       : Bool
  eighths     : Nat
  startFailed : Bool
  deriving DecidableEq, Repr

/-- A source record (R38, R42, R47, R51–R53). -/
structure SourceRecord where
  state     : SourceState
  pickup    : Timer
  excursion : Option Excursion
  history   : List ExcursionRecord
  dips      : Nat
  gen       : GenRecord
  deriving DecidableEq, Repr

/-! ### Breakers, Buses and Feeding -/

/-- A breaker record (R57): `echo` is the latest echo, none for no command yet. -/
structure BreakerRecord where
  position     : Position
  lastReported : Option ReportedPosition
  ready        : Bool
  remote       : Bool
  withdrawn    : Bool
  trip         : TripCause
  echo         : Option (CmdNum × EchoResult)
  failed       : Bool
  opCount      : Nat
  uncommanded  : Nat
  interlock    : Nat
  deriving DecidableEq, Repr

/-- The topology (R65). -/
structure Topology where
  kind      : Vector SourceKind 4
  home      : Vector Bus 4
  preferred : PerBus (Option Src)
  groupBus  : Vector Bus 16
  deriving DecidableEq, Repr

/-- A bus record (R67, R68, R72, R73). -/
structure BusRecord where
  live          : LiveState
  feed          : FeedState
  lockout       : Bool
  deadConfirm   : Timer
  feedAtDead    : FeedState
  returnTimer   : Timer
  unplanned     : Timer
  unplannedMark : Bool
  deriving DecidableEq, Repr

/-- The fed domain of a source: whether it feeds each bus (R66). -/
structure FedDomain where
  a : Bool
  b : Bool
  deriving DecidableEq, Repr

/-! ### Request Channels -/

/-- The arbiter record with the RUN output (R78). `inStart` is the model's own: it is yes while steps 3 and 4 of an
accepted START are carried out (R80, R85). -/
structure ArbiterRecord where
  mode    : RunMode
  runOut  : Bool
  halt    : Bool
  abort   : AbortOrder
  inStart : Bool
  deriving DecidableEq, Repr

/-- A channel record (R83). -/
structure ChannelRecord where
  enable    : Bool
  mask      : Bool
  pending   : Bool
  engaged   : Engaged
  mode      : CompletionMode
  outcome   : Option ChannelOutcome
  template  : Option TemplateRef
  tally     : Nat
  requested : Option (Fin 24)
  deriving DecidableEq, Repr

/-! ### Templates and Plan Selection -/

/-- A template (R97): its step count is the number of its steps. -/
structure Template where
  nameTag  : BitVec 16
  steps    : List Step
  required : List (Src × RequiredMark)
  capacity : Option (Src × BusSet)
  closed   : Bool
  deriving DecidableEq, Repr

/-- The result of a template at a take (R103, R110). -/
inductive TemplateResult where
  | chosen
  | empty
  | reference
  | source
  | breaker
  | lockout
  | time
  | capacity
  | notJudged
  deriving DecidableEq, Repr

/-- A candidate in the selection record (R110): C and the final D where the capacity check was worked. -/
structure Candidate where
  template : Fin 24
  result   : TemplateResult
  figures  : Option (Nat × Nat)
  deriving DecidableEq, Repr

/-- Where a plan came from (R110). -/
inductive PlanFrom where
  | list
  | requested
  | builtIn
  deriving DecidableEq, Repr

/-- The built-in result (R110). -/
inductive BuiltInResult where
  | formed
  | noGroup
  | notFed
  | noFit
  | breaker
  | lockout
  deriving DecidableEq, Repr

/-- The selection record (R110): an absent outcome is NO_PATH. -/
structure SelectionRecord where
  channel    : Channel
  takenAt    : Nat
  source     : PlanFrom
  candidates : List Candidate
  builtIn    : Option (BuiltInResult × Option Grp)
  outcome    : Option TemplateRef
  deriving DecidableEq, Repr

/-- A plan as the Plan Selector hands it over (R102). -/
structure Plan where
  channel  : Channel
  template : TemplateRef
  nameTag  : BitVec 16
  steps    : List Step
  group    : Option Grp
  deriving DecidableEq, Repr

/-! ### Plan Execution -/

/-- The executor's state (R114). -/
inductive ExecState where
  | idle
  | running
  | aborting
  deriving DecidableEq, Repr

/-- The phase of the current step (R114). -/
inductive Phase where
  | entries
  | timer
  | attempt
  deriving DecidableEq, Repr

/-- How a step ended, or that it was not reached (R116). -/
inductive StepOutcome where
  | notReached
  | done
  | skipped
  | failed (reason : Reason)
  | abandoned
  deriving DecidableEq, Repr

/-- A step in a plan record (R116): outcome absent while the step runs. `shed` is a SHEDFIT step's list. -/
structure StepRecord where
  step    : Step
  outcome : Option StepOutcome
  ended   : Option Nat
  shed    : List (Grp × Option EntryOutcome)
  deriving DecidableEq, Repr

/-- The state in the guard field of a plan record (R116). -/
inductive GuardMark where
  | none
  | running
  | endedFeed
  | endedOpen
  | tripped
  deriving DecidableEq, Repr

/-- The guard field of a plan record (R116). -/
structure GuardField where
  mark  : GuardMark
  start : Option Nat
  ended : Option Nat
  trip  : Option EntryOutcome
  deriving DecidableEq, Repr

/-- A plan record (R116). `serial` is the model's own: it tells one hand-over from another. -/
structure PlanRecord where
  serial   : Nat
  channel  : Channel
  template : TemplateRef
  nameTag  : BitVec 16
  group    : Option Grp
  start    : Nat
  ended    : Option Nat
  outcome  : Option PlanOutcome
  steps    : List StepRecord
  guard    : GuardField
  deriving DecidableEq, Repr

/-- The executor record (R114). `step` is the number of the current step, counted from 1, and 0 with no plan.
`serial` is the model's own: it tells one hand-over from another. The last two fields are what R133 asks of the current
step's entries: the first reason one of them failed with, and whether one was cancelled. -/
structure ExecRecord where
  state       : ExecState
  plan        : Option Plan
  step        : Nat
  phase       : Option Phase
  outstanding : List CmdNum
  timer       : Timer
  cause       : Option AbortCause
  decided     : Bool
  serial      : Nat
  stepFailed  : Option Reason
  stepCut     : Bool
  deriving DecidableEq, Repr

/-- The guard's state (R134). -/
inductive GuardState where
  | absent
  | running
  | tripping
  deriving DecidableEq, Repr

/-- The parallel guard (R134). The fields after `trip` are the model's own: the plan that started it and the SYNC
step's points, which R136 names in its fault record. -/
structure GuardRecord where
  state     : GuardState
  target    : Breaker
  watchA    : Bool
  watchB    : Bool
  start     : Nat
  limit     : Nat
  timer     : Timer
  trip      : Option CmdNum
  serial    : Nat
  channel   : Channel
  template  : TemplateRef
  reference : Point
  incoming  : Point
  deriving DecidableEq, Repr

/-! ### Synchronised Closing -/

/-- The cause of a NOT_READY result (R142, R144, R146). -/
inductive NotReadyCause where
  | point
  | clamped
  | skew
  | voltage
  | slip
  | direction
  | angle
  deriving DecidableEq, Repr

/-- The result of an evaluation (R141). -/
inductive EvalResult where
  | notReady (cause : NotReadyCause)
  | notYet
  | ready (tc : Nat)
  deriving DecidableEq, Repr

/-- The figures of an evaluation (R148), each absent if the evaluation ended before the stage that forms it. -/
structure Evaluation where
  result   : EvalResult
  now      : Nat
  t0       : Option Nat
  angles   : Option (Nat × Nat)
  dV       : Option Nat
  slip     : Option Int
  delta    : Option Int
  standing : Option Bool
  travel   : Option Nat
  wait     : Option Nat
  period   : Option Nat
  tc       : Option Int
  deriving DecidableEq, Repr

/-- The state of an attempt (R139). -/
inductive AttemptState where
  | waiting
  | armed
  | confirming
  | done
  | failed
  deriving DecidableEq, Repr

/-- The attempt record (R139). -/
structure AttemptRecord where
  state       : AttemptState
  breaker     : Breaker
  reference   : Point
  incoming    : Point
  set         : Fin 4
  channel     : Channel
  template    : TemplateRef
  step        : Nat
  start       : Nat
  ended       : Option Nat
  entry       : Option (CmdNum × Nat)
  reason      : Option Reason
  evaluation  : Option Evaluation
  evaluations : Nat
  arms        : Nat
  retimes     : Nat
  cancels     : Nat
  misses      : Nat
  deriving DecidableEq, Repr

/-! ### Command Schedule -/

/-- The owner of an entry, which also gives its origin (R155): STEP, SYNC, GUARD or OPERATE. -/
inductive Owner where
  | step (serial : Nat) (channel : Channel) (template : TemplateRef) (step : Nat) (group : Option Grp)
  | attempt (channel : Channel) (template : TemplateRef) (step : Nat)
  | guard (serial : Nat)
  | management
  deriving DecidableEq, Repr

/-- An entry of the schedule (R155): `sent` says whether its state is SENT or QUEUED. -/
structure Entry where
  num        : CmdNum
  target     : Target
  action     : Action
  executeAt  : Nat
  owner      : Owner
  sent       : Bool
  insertedAt : Nat
  horizon    : Nat
  dueSince   : Option Nat
  sendStamp  : Option Nat
  late       : Bool
  deadline   : Timer
  deriving DecidableEq, Repr

/-- The nine tallies of the schedule (R156). -/
structure ScheduleTallies where
  inserted    : Nat
  sent        : Nat
  late        : Nat
  missed      : Nat
  blocked     : Nat
  refused     : Nat
  timedOut    : Nat
  unconfirmed : Nat
  evicted     : Nat
  deriving DecidableEq, Repr

/-- A Command frame taken back from the slots, with the ports it was taken from (R163). -/
structure HeldCopy where
  frame : CommandFrame
  one   : Bool
  two   : Bool
  deriving DecidableEq, Repr

/-- The Command Schedule, in schedule order (R155–R163). -/
structure Schedule where
  entries  : List Entry
  next     : CmdNum
  held     : List HeldCopy
  settings : ScheduleSettings
  tallies  : ScheduleTallies
  deriving DecidableEq, Repr

/-! ### Load Groups -/

/-- A row of the group table with its shed mark (R169, R170). `wasClosed` is whether the feeder was CLOSED when its unit
dropped out, with no position taken since, so that its demand still counts (R171; log 44). -/
structure GroupRow where
  demand    : Nat
  rank      : Nat
  manual    : Bool
  mark      : Bool
  wasClosed : Bool
  deriving DecidableEq, Repr

/-- The state of a group (R171). -/
inductive GroupState where
  | unavailable
  | connected
  | shed
  | off
  deriving DecidableEq, Repr

/-- The shed stage (R175). -/
inductive ShedStage where
  | stopped
  | timing
  | raised
  deriving DecidableEq, Repr

/-- The restoration stage (R175). -/
inductive RestoreStage where
  | stopped
  | settling
  | staggering
  | raised
  deriving DecidableEq, Repr

/-- The block reason (R175). -/
inductive BlockReason where
  | none
  | noFit
  | unavailable
  deriving DecidableEq, Repr

/-- The load stage record of a bus (R175). `raisedOn` is the bus of the raised restore channel. -/
structure LoadStage where
  shed          : ShedStage
  freqTimer     : Timer
  capTimer      : Timer
  restore       : RestoreStage
  settle        : Timer
  stagger       : Timer
  raisedOn      : Option Bus
  lastCandidate : Option Grp
  block         : BlockReason
  requested     : Option Grp
  deriving DecidableEq, Repr

/-! ### Management, Conditions and Fault Records -/

/-- A condition record (R191). Its standing cause is worked out from the owner's state. -/
structure ConditionRecord where
  set     : Bool
  lastSet : Option Nat
  tally   : Nat
  deriving DecidableEq, Repr

/-- A point snapshot of a fault record (R193). -/
structure Snapshot where
  point : Point
  stamp : Nat
  magA  : Nat
  magB  : Nat
  magC  : Nat
  freq  : Nat
  angle : Nat
  deriving DecidableEq, Repr

/-- A fault record (R193). -/
structure FaultRecord where
  kind      : FaultKind
  time      : Nat
  channel   : Option Channel
  template  : Option TemplateRef
  step      : Option Nat
  breaker   : Option Breaker
  source    : Option Src
  bus       : Option BusSet
  position  : Option Position
  snapshots : List Snapshot
  repeats   : Nat
  deriving DecidableEq, Repr

/-- A fault kind's tally and overflow mark (R194). -/
structure FaultTally where
  count    : Nat
  overflow : Bool
  deriving DecidableEq, Repr

/-- The Fault Log (R193, R194). -/
structure FaultLog where
  first   : Option FaultRecord
  second  : Option FaultRecord
  dropped : Nat
  tallies : Vector FaultTally 14
  deriving DecidableEq, Repr

/-- A row of the operate record (R186). -/
structure OperateRow where
  num        : CmdNum
  target     : Target
  action     : Action
  insertedAt : Nat
  sendStamp  : Option Nat
  late       : Bool
  outcome    : EntryOutcome
  deriving DecidableEq, Repr

/-- The Management Unit's own records (R185, R186, R191, R193–R195). -/
structure Management where
  conditions   : Vector ConditionRecord 12
  faults       : FaultLog
  statusPeriod : Nat
  statusTimer  : Timer
  requests     : Nat
  foreign      : Nat
  refused      : Nat
  operates     : List OperateRow
  deriving DecidableEq, Repr

/-! ### The frames the part makes -/

/-- Why a request is refused (R185). -/
inductive RefusedReason where
  | mode
  | quiescent
  | value
  | row
  | inUse
  | guard
  | state
  | duplicateRole
  | duplicateRank
  deriving DecidableEq, Repr

/-- A field brought into range (R189): its row, its field index, and for a template step the step's number. -/
structure FieldRef where
  row   : Nat
  step  : Option Nat
  index : Nat
  deriving DecidableEq, Repr

/-- The outcome of a Response (R185). -/
inductive Answer where
  | done
  | clamped (fields : List FieldRef)
  | refused (reason : RefusedReason)
  deriving DecidableEq, Repr

/-- The kind of an item of the configuration check (R79). -/
inductive CheckItem where
  | sourcePoint (s : Src)
  | incomer (s : Src)
  | generatorController (s : Src)
  | busPoint (x : Bus)
  | coupler
  | template (n : Fin 24)
  | candidateList (c : Channel)
  deriving DecidableEq, Repr

/-- What a row of the bus settings returns of the bus record: the fields of R68, without the unplanned-parallel timer. -/
structure BusFields where
  live          : LiveState
  feed          : FeedState
  lockout       : Bool
  deadConfirm   : Timer
  feedAtDead    : FeedState
  returnTimer   : Timer
  unplannedMark : Bool
  deriving DecidableEq, Repr

/-- What a row of the bus settings returns of the load stage record: the fields of R175, each timer as running or not. -/
structure StageFields where
  shed          : ShedStage
  freqTimer     : Bool
  capTimer      : Bool
  restore       : RestoreStage
  settle        : Bool
  stagger       : Bool
  raisedOn      : Option Bus
  lastCandidate : Option Grp
  block         : BlockReason
  requested     : Option Grp
  deriving DecidableEq, Repr

/-- A row that a Response returns: a table's row with its read-only fields (R187, R188), or a row of its own. -/
inductive RowData where
  | unitMap (row : UnitMapRow) (state : UnitState) (expected : SeqNum) (miss goodRun : Nat) (last : Option Nat)
      (stale : Nat)
  | topology (row : TopologyRow)
  | template (row : Template)
  | candidates (row : List (Fin 24))
  | link (addressing : ResponseAddressing)
  | portTallies (row : PortTallies)
  | time (row : TimeSettings) (state : TimeState) (now : Nat) (lastError : Option Int) (correction : Int)
      (stepDeferred : Bool) (stepTally : Nat) (lastStep : Option Int) (timeTally rangeTally : Nat)
  | point (row : PointRecord)
  | source (row : SourceSettings) (state : SourceState) (pickup : Bool) (excursion : Option Excursion) (dips : Nat)
      (gen : GenRecord) (capacity : Nat)
  | breaker (row : BreakerSettings) (record : BreakerRecord)
  | sync (row : SyncSettings)
  | schedule (row : ScheduleSettings) (tallies : ScheduleTallies)
  | bus (row : BusSettings) (record : BusFields) (stage : StageFields)
  | group (demand rank : Nat) (manual clearMark : Bool) (bus : Bus) (position : Position) (state : GroupState)
      (mark : Bool)
  | management (statusPeriod requests foreign refused : Nat)
  | history (records : List ExcursionRecord) (dips : Nat)
  | channel (record : ChannelRecord) (arbiter : ArbiterRecord)
  | selection (record : Option SelectionRecord)
  | currentPlan (record : Option PlanRecord) (executor : ExecRecord) (guard : GuardRecord)
  | previousPlan (record : Option PlanRecord)
  | attempt (record : Option AttemptRecord)
  | entry (entry : Option Entry)
  | domain (fed : FedDomain) (capacity : Nat) (demand : Option Nat) (headroom : Option Int)
  | condition (record : ConditionRecord) (cause : Bool)
  | fault (record : Option FaultRecord) (dropped : Nat)
  | faultTally (row : FaultTally)
  | operate (row : Option OperateRow)
  | checkItem (item : CheckItem)
  | operated (num : CmdNum) (sent : Bool) (outcome : Option EntryOutcome)
  | scheduleFull
  | setAgain (flags : List Flag)
  | identity (partCode revision : Nat) (station : BitVec 8)
  deriving DecidableEq, Repr

/-- A Response frame (R7–R9, R185). -/
structure ResponseFrame where
  head   : OwnHeader
  tag    : BitVec 16
  answer : Answer
  rows   : List RowData
  deriving DecidableEq, Repr

/-- The content of a Status frame (R195). -/
structure StatusContent where
  mode          : RunMode
  halt          : Bool
  abort         : AbortOrder
  engaged       : Option (Channel × Engaged × Option ChannelOutcome)
  pending       : List Channel
  exec          : ExecState
  plan          : Option (TemplateRef × BitVec 16)
  step          : Option (Nat × Step)
  guard         : GuardState
  sources       : List (SourceState × Option Bool)
  breakers      : List (Position × Bool)
  buses         : PerBus (LiveState × FeedState × Bool)
  entries       : Nat
  time          : TimeState
  conditions    : List Flag
  faultSlots    : Nat
  faultsDropped : Bool
  deriving DecidableEq, Repr

/-- A Status frame (R7–R9, R195). -/
structure StatusFrame where
  head    : OwnHeader
  content : StatusContent
  deriving DecidableEq, Repr

/-- The frame a transmitter is sending (R6). -/
inductive SentFrame where
  | command (frame : CommandFrame)
  | forwarded (bytes : List Byte)
  | response (frame : ResponseFrame)
  | status (frame : StatusFrame)
  deriving DecidableEq, Repr

/-- One port: link state, forward queue, own-frame slots, transmitter and tallies (R4–R7, R18). -/
structure PortState where
  up       : Bool
  queue    : List (List Byte)
  command  : Option CommandFrame
  response : Option ResponseFrame
  status   : Option StatusFrame
  sending  : Option SentFrame
  tallies  : PortTallies
  deriving DecidableEq, Repr

/-- The Link Port: the straps as read at POWER-ON (R1), the transmit sequence (R7), the link settings (R8). -/
structure LinkState where
  straps     : BitVec 8
  txSeq      : SeqNum
  addressing : ResponseAddressing
  ports      : PerPort PortState
  deriving DecidableEq, Repr

/-! ### The part, the hand-offs of an event, and the state -/

/-- Everything the spec gives the part. `freeCount` is the model's own: how many free values have been used. -/
structure Part where
  link            : LinkState
  unitMap         : Vector UnitMapRow 32
  units           : Vector UnitRecord 32
  time            : TimeBase
  points          : Vector PointRecord 6
  sourceSettings  : Vector SourceSettings 4
  sources         : Vector SourceRecord 4
  breakerSettings : Vector BreakerSettings 21
  breakers        : Vector BreakerRecord 21
  topology        : Topology
  busSettings     : PerBus BusSettings
  buses           : PerBus BusRecord
  fedDomains      : Vector FedDomain 4
  arbiter         : ArbiterRecord
  channels        : Vector ChannelRecord 12
  templates       : Vector Template 24
  candidates      : Vector (List (Fin 24)) 6
  selection       : Option SelectionRecord
  exec            : ExecRecord
  currentPlan     : Option PlanRecord
  previousPlan    : Option PlanRecord
  guard           : GuardRecord
  syncSettings    : Vector SyncSettings 4
  attempt         : Option AttemptRecord
  syncTimer       : Timer
  schedule        : Schedule
  groups          : Vector GroupRow 16
  stages          : PerBus LoadStage
  management      : Management
  freeCount       : Nat
  deriving DecidableEq, Repr

/-- A hand-off of an event: what one block still has to do within it. An event is worked through in the order in
which its hand-offs are made, each whole before the next (00_scope, Events and order). -/
inductive Task where
  -- what a command brings
  | frame (port : Port) (checkOk : Bool) (bytes : List Byte)
  | announce (port : Port) (frame : AnnounceFrame)
  | reading (p : Point) (body : RawReading)
  | stateReport (b : Breaker) (body : BreakerReport)
  | genstat (s : Src) (body : GenReport)
  | timeFrame (master : Nat)
  | request (sender : Sender) (request : Request)
  | foreign
  | portUp (port : Port)
  | portDown (port : Port)
  | transmitEnd (port : Port)
  | silenceExpiry (row : Fin 32)
  | holdoverExpiry
  | slewInstant
  | pickupExpiry (s : Src)
  | unplannedExpiry (x : Bus)
  | deadConfirmExpiry (x : Bus)
  | returnExpiry (x : Bus)
  | waitdeadTimeout
  | dwellExpiry
  | waithealthyTimeout
  | guardExpiry
  | syncLimitExpiry
  | entryDue (num : CmdNum)
  | deadlineExpiry (num : CmdNum)
  | frequencyExpiry (x : Bus)
  | capacityExpiry (x : Bus)
  | settleExpiry (x : Bus)
  | staggerExpiry (x : Bus)
  | statusExpiry
  -- Process Link
  | checked (port : Port) (header : Header) (body : Body)
  | egress (port : Port)
  | unitGone (role : Role)
  | unitLost (role : Role)
  -- Readings and Source Supervision
  | pointBlind (p : Point)
  | sourceReading (s : Src) (r : Reading)
  | sourceChanged (s : Src)
  | healthCheck (s : Src)
  | genChanged (s : Src) (replaced loadChanged : Bool)
  | runCheck (s : Src)
  -- Breakers, Buses and Feeding
  | liveState (x : Bus)
  | feedTold
  | busFault (x : Bus) (b : Breaker)
  | raiseLost (x : Bus)
  | startBus (x : Bus)
  -- Request Channels
  | raise (c : Channel)
  | judgeTake
  | judgePreempt
  | afterStart
  | select (c : Channel)
  | planEnded (outcome : PlanOutcome)
  | endEngagement (c : Channel)
  | arbiterIdle
  -- Plan Execution
  | abort (cause : AbortCause)
  | beginStep (serial step : Nat)
  | nextStep (serial step : Nat)
  | failStep (serial step : Nat) (reason : Reason)
  | shedNext (serial step : Nat) (groups : List Grp)
  | stepEntry (num : CmdNum) (owner : Owner) (outcome : EntryOutcome)
  | windDown
  | waitDeadCheck (p : Point)
  | guardFeed
  | guardTripped
  | guardFailPlan
  | recordFault (record : FaultRecord)
  -- Synchronised Closing
  | evaluate (p : Point)
  | timeQualityPoor
  | attemptEntry (num : CmdNum) (outcome : EntryOutcome)
  | attemptDone
  -- Command Schedule
  | handOver
  | reportEntry (entry : Entry) (outcome : EntryOutcome)
  | breakerEntries (b : Breaker)
  | judgeBreakerEntry (num : CmdNum)
  | sourceEntries (s : Src)
  | judgeSourceEntry (num : CmdNum)
  -- Load Groups
  | load
  | shedStage (x : Bus)
  | shedRaised (x : Bus)
  | capacityShort
  | restoreStage (x : Bus)
  | loadOutcome (c : Channel)
  | restoreOutcome (c : Channel)
  | loadStart
  | shedMark (g : Grp)
  -- Management
  | respond (sender : Sender) (answer : Answer) (rows : List RowData)
  | respondOperate (sender : Sender) (num : CmdNum)
  | restart
  deriving DecidableEq, Repr

/-- The state of the block: the part, the commands that wait, and the hand-offs of an event that the model has not
worked through yet (log 2; empty between events but where an event's rules go on past the model's bound). -/
structure State where
  part    : Part
  pending : List Instr
  work    : List Task
  deriving DecidableEq, Repr

/-! ### Values at POWER-ON -/

/-- All seven tallies at 0 (R18). -/
def PortTallies.zero : PortTallies := ⟨0, 0, 0, 0, 0, 0, 0⟩

/-- A port at POWER-ON: DOWN, nothing waiting (R5, R18). -/
def PortState.init : PortState := ⟨false, [], none, none, none, none, PortTallies.zero⟩

/-- A unit map row at POWER-ON: EMPTY, unbound (R10). -/
def UnitMapRow.init : UnitMapRow := ⟨0, .empty, false, false, 0, 0⟩

/-- A unit record at POWER-ON, at RESTART and when its row is bound (R13). -/
def UnitRecord.init : UnitRecord := ⟨.absent, 0, 0, 0, 0, none, 0, .stopped⟩

/-- The time settings' defaults (R20). -/
def TimeSettings.default : TimeSettings := ⟨100, 100, 1000, 50, 5, 5000⟩

/-- The Time Base right after a reset, with the settings it then has (R19, R20). -/
def TimeBase.init (settings : TimeSettings) : TimeBase :=
  { now := 0, state := .unsynced, lastError := none, correction := 0, slewTotal := 0, slewInterval := 0
    slewElapsed := 0, slewSeed := 0, withhold := 0, stepDeferred := false, stepTally := 0, lastStep := none
    timeTally := 0, rangeTally := 0, lastFrame := none, everLocked := false, holdover := .stopped
    settings := settings }

/-- A point record at POWER-ON (R30, R31). -/
def PointRecord.init : PointRecord := ⟨false, none, none, none, 0, 0, 0, 0, 0, false⟩

/-- The source settings' defaults (R38). -/
def SourceSettings.default : SourceSettings :=
  { dead := 200, acceptLo := 900, acceptHi := 1080, holdLo := 850, holdHi := 1100, fAcceptLo := 49800
    fAcceptHi := 50200, fHoldLo := 49500, fHoldHi := 50500, unbalance := 60, pickup := 10000, floor1 := 700
    floor2 := 400, ride1 := 3000, ride2 := 600, ride3 := 150, recovery := 3, rated := 0, loading := 90
    startLimit := 60 }

/-- A zeroed generator record (R53). -/
def GenRecord.zero : GenRecord := ⟨false, false, 0, false⟩

/-- A source record at POWER-ON (R42, R52, R53). -/
def SourceRecord.init : SourceRecord := ⟨.out, .stopped, none, [], 0, GenRecord.zero⟩

/-- The breaker settings' defaults (R62). -/
def BreakerSettings.default : BreakerSettings := ⟨80000, 50000, 200, 0⟩

/-- A breaker record at POWER-ON (R57). -/
def BreakerRecord.init : BreakerRecord := ⟨.unknown, none, false, false, false, .none, none, false, 0, 0, 0⟩

/-- The topology's defaults (R65). -/
def Topology.init : Topology :=
  { kind := Vector.replicate 4 .unused
    home := #v[.a, .b, .a, .b]
    preferred := ⟨none, none⟩
    groupBus := #v[.a, .a, .a, .a, .a, .a, .a, .a, .b, .b, .b, .b, .b, .b, .b, .b] }

/-- The bus settings' defaults (R174). -/
def BusSettings.default : BusSettings := ⟨49000, 49800, 500, 1000, 10, 15, 800, 200, 100, 300, false⟩

/-- A bus record at POWER-ON (R67, R68). -/
def BusRecord.init : BusRecord := ⟨.blind, .unfed, false, .stopped, .unfed, .stopped, .stopped, false⟩

/-- The arbiter record at POWER-ON and RESTART (R78). -/
def ArbiterRecord.init : ArbiterRecord := ⟨.halted, false, false, .none, false⟩

/-- A channel record at POWER-ON, with its completion mode (R84). -/
def ChannelRecord.init (mode : CompletionMode) : ChannelRecord :=
  ⟨true, false, false, .no, mode, none, none, 0, none⟩

/-- The twelve channel records at POWER-ON: OPERATOR, number 5, holds for confirmation (R84). -/
def channelsInit : Vector ChannelRecord 12 :=
  (Vector.replicate 12 (ChannelRecord.init .selfRelease)).set 5 (ChannelRecord.init .holdForConfirm)

/-- An empty template (R97). -/
def Template.init : Template := ⟨0, [], [], none, false⟩

/-- The executor at POWER-ON and RESTART (R114). The serial of its hand-overs goes on. DESIGN CHOICE (log 39): the spec
gives "end decided" no value here and once the executor is IDLE; it is no. -/
def ExecRecord.init (serial : Nat) : ExecRecord :=
  ⟨.idle, none, 0, none, [], .stopped, none, false, serial, none, false⟩

/-- An ABSENT guard (R134). Its other fields say nothing while it is ABSENT. -/
def GuardRecord.init : GuardRecord :=
  ⟨.absent, .coupler, false, false, 0, 0, .stopped, none, 0, .test, .builtIn, .bus .a, .bus .b⟩

/-- The sync settings' defaults (R138). -/
def SyncSettings.default : SyncSettings := ⟨50, 5, 200, 100, .any, 250, 2000, 40, 60, 150⟩

/-- The schedule settings' defaults (R156). -/
def ScheduleSettings.default : ScheduleSettings := ⟨2000, 10000, 1000, 2000000⟩

/-- The schedule at POWER-ON (R155, R156). -/
def Schedule.init : Schedule := ⟨[], 0, [], ScheduleSettings.default, ⟨0, 0, 0, 0, 0, 0, 0, 0, 0⟩⟩

/-- A group row at POWER-ON (R169, R170). -/
def GroupRow.init : GroupRow := ⟨0, 0, false, false, false⟩

/-- A load stage record at POWER-ON and RESTART (R175). -/
def LoadStage.init : LoadStage :=
  ⟨.stopped, .stopped, .stopped, .stopped, .stopped, .stopped, none, none, .none, none⟩

/-- A condition record at POWER-ON (R191). -/
def ConditionRecord.init : ConditionRecord := ⟨false, none, 0⟩

/-- The Fault Log at POWER-ON and after CLEAR_FAULTS (R193, R194). -/
def FaultLog.init : FaultLog := ⟨none, none, 0, Vector.replicate 14 ⟨0, false⟩⟩

/-- Whether straps of this value make a numbered station (R1). -/
def strapsNumbered (straps : BitVec 8) : Bool := within 1 254 straps.toNat

/-- The status timer right after a reset: it starts in a numbered part (R195). The period is in ms. -/
def statusTimerAt (straps : BitVec 8) (period : Nat) : Timer :=
  if strapsNumbered straps then .running 0 (period * 1000) else .stopped

/-- The Management Unit at POWER-ON (R185, R186, R191, R193–R195). -/
def Management.init (straps : BitVec 8) : Management :=
  ⟨Vector.replicate 12 ConditionRecord.init, FaultLog.init, 100, statusTimerAt straps 100, 0, 0, 0, []⟩

/-- The part right after a POWER-ON that finds its straps at a value (R1 and the POWER-ON values of every block). -/
def Part.powerOn (straps : BitVec 8) : Part :=
  { link := ⟨straps, 0, .unicast, ⟨PortState.init, PortState.init⟩⟩
    unitMap := Vector.replicate 32 UnitMapRow.init
    units := Vector.replicate 32 UnitRecord.init
    time := TimeBase.init TimeSettings.default
    points := Vector.replicate 6 PointRecord.init
    sourceSettings := Vector.replicate 4 SourceSettings.default
    sources := Vector.replicate 4 SourceRecord.init
    breakerSettings := Vector.replicate 21 BreakerSettings.default
    breakers := Vector.replicate 21 BreakerRecord.init
    topology := Topology.init
    busSettings := ⟨BusSettings.default, BusSettings.default⟩
    buses := ⟨BusRecord.init, BusRecord.init⟩
    fedDomains := Vector.replicate 4 ⟨false, false⟩
    arbiter := ArbiterRecord.init
    channels := channelsInit
    templates := Vector.replicate 24 Template.init
    candidates := Vector.replicate 6 []
    selection := none
    exec := ExecRecord.init 0
    currentPlan := none
    previousPlan := none
    guard := GuardRecord.init
    syncSettings := Vector.replicate 4 SyncSettings.default
    attempt := none
    syncTimer := .stopped
    schedule := Schedule.init
    groups := Vector.replicate 16 GroupRow.init
    stages := ⟨LoadStage.init, LoadStage.init⟩
    management := Management.init straps
    freeCount := 0 }

/-- The straps of `State.reset` (log 1, DESIGN CHOICE): the spec gives no value, the pins decide. -/
def resetStraps : BitVec 8 := 1

/-- The machine right after reset: POWER-ON with the straps of log 1, and no command waiting. -/
def State.reset : State := ⟨Part.powerOn resetStraps, [], []⟩

end Sys2Proof.Machine
end

