-- ==== Sys2Proof/Machine/Ops.lean ====
section
/-! DEFINITION. The named operations that every block uses: reading and replacing one record, timers (R27), the view of
a point (R37), units by their role (R10, R11), the topology (R65, R69), feeding (R66, R67), the return timers (R73),
available capacity (R54, R55), the domain figures (R171, R172) and the breaker test (R105). -/

namespace Sys2Proof.Machine

/-- The part after a hand-off, and the hand-offs it makes in turn, in order. -/
abbrev Res := Part × List Task

/-! ### Lists of everything there is one of each -/

/-- The sources in number order. -/
def allSrcs : List Src := List.finRange 4

/-- The groups in number order. -/
def allGrps : List Grp := List.finRange 16

/-- The two buses. -/
def allBuses : List Bus := [.a, .b]

/-- The 21 breakers in number order. -/
def allBreakers : List Breaker := allSrcs.map .incomer ++ .coupler :: allGrps.map .feeder

/-- The rows of the unit map. -/
def allRows : List (Fin 32) := List.finRange 32

/-- The bus that is not `x`. -/
def otherBus : Bus → Bus
  | .a => .b
  | .b => .a

/-- Whether a bus belongs to a bus set (R97). -/
def setHas : BusSet → Bus → Bool
  | .a, x => x == .a
  | .b, x => x == .b
  | .both, _ => true

/-- The bus set of one bus (R193). -/
def oneBus : Bus → BusSet
  | .a => .a
  | .b => .b

/-- A vector with a function applied to each of its items. -/
def mapAll {α β : Type} {n : Nat} (f : α → β) (v : Vector α n) : Vector β n := ⟨⟨v.toList.map f⟩, by simp⟩

/-- A vector with a function of its index and its item applied to each. -/
def mapIndexed {α β : Type} {n : Nat} (f : Fin n → α → β) (v : Vector α n) : Vector β n :=
  ⟨⟨(List.finRange n).map (fun i => f i (v.get i))⟩, by simp⟩

/-! ### Reading and replacing one record -/

/-- The record of a unit map row. -/
def Part.unit (p : Part) (r : Fin 32) : UnitRecord := p.units.get r
/-- Replaces the record of a unit map row. -/
def Part.setUnit (p : Part) (r : Fin 32) (v : UnitRecord) : Part := { p with units := p.units.set r v }
/-- A row of the unit map. -/
def Part.row (p : Part) (r : Fin 32) : UnitMapRow := p.unitMap.get r
/-- Replaces a row of the unit map. -/
def Part.setRow (p : Part) (r : Fin 32) (v : UnitMapRow) : Part := { p with unitMap := p.unitMap.set r v }
/-- A point record. -/
def Part.point (p : Part) (pt : Point) : PointRecord := p.points.get pt.idx
/-- Replaces a point record. -/
def Part.setPoint (p : Part) (pt : Point) (v : PointRecord) : Part := { p with points := p.points.set pt.idx v }
/-- A source record. -/
def Part.source (p : Part) (s : Src) : SourceRecord := p.sources.get s
/-- Replaces a source record. -/
def Part.setSource (p : Part) (s : Src) (v : SourceRecord) : Part := { p with sources := p.sources.set s v }
/-- The settings of a source. -/
def Part.srcSet (p : Part) (s : Src) : SourceSettings := p.sourceSettings.get s
/-- A breaker record. -/
def Part.breaker (p : Part) (b : Breaker) : BreakerRecord := p.breakers.get b.idx
/-- Replaces a breaker record. -/
def Part.setBreaker (p : Part) (b : Breaker) (v : BreakerRecord) : Part :=
  { p with breakers := p.breakers.set b.idx v }
/-- The settings of a breaker. -/
def Part.brkSet (p : Part) (b : Breaker) : BreakerSettings := p.breakerSettings.get b.idx
/-- A bus record. -/
def Part.bus (p : Part) (x : Bus) : BusRecord := p.buses.get x
/-- Replaces a bus record. -/
def Part.setBus (p : Part) (x : Bus) (v : BusRecord) : Part := { p with buses := p.buses.set x v }
/-- The settings of a bus. -/
def Part.busSet (p : Part) (x : Bus) : BusSettings := p.busSettings.get x
/-- A channel record. -/
def Part.channel (p : Part) (c : Channel) : ChannelRecord := p.channels.get c.idx
/-- Replaces a channel record. -/
def Part.setChannel (p : Part) (c : Channel) (v : ChannelRecord) : Part :=
  { p with channels := p.channels.set c.idx v }
/-- A group row. -/
def Part.group (p : Part) (g : Grp) : GroupRow := p.groups.get g
/-- Replaces a group row. -/
def Part.setGroup (p : Part) (g : Grp) (v : GroupRow) : Part := { p with groups := p.groups.set g v }
/-- A load stage record. -/
def Part.stage (p : Part) (x : Bus) : LoadStage := p.stages.get x
/-- Replaces a load stage record. -/
def Part.setStage (p : Part) (x : Bus) (v : LoadStage) : Part := { p with stages := p.stages.set x v }
/-- A port. -/
def Part.port (p : Part) (k : Port) : PortState := p.link.ports.get k
/-- Replaces a port. -/
def Part.setPort (p : Part) (k : Port) (v : PortState) : Part :=
  { p with link := { p.link with ports := p.link.ports.set k v } }
/-- Replaces the Time Base. -/
def Part.setTime (p : Part) (v : TimeBase) : Part := { p with time := v }
/-- Replaces the Command Schedule. -/
def Part.setSchedule (p : Part) (v : Schedule) : Part := { p with schedule := v }
/-- Replaces the executor record. -/
def Part.setExec (p : Part) (v : ExecRecord) : Part := { p with exec := v }
/-- Replaces the Management Unit's records. -/
def Part.setManagement (p : Part) (v : Management) : Part := { p with management := v }

/-- Station time, which every rule calls now (R19). -/
def Part.now (p : Part) : Nat := p.time.now

/-- Whether the part is a numbered station (R1). -/
def Part.numbered (p : Part) : Bool := strapsNumbered p.link.straps

/-! ### Timers (R27) -/

/-- A duration in ms. -/
def ms (n : Nat) : Nat := n * 1000

/-- A duration in s. -/
def seconds (n : Nat) : Nat := n * 1000000

/-- A timer that starts with a duration, or starts again. -/
def Timer.start (duration : Nat) : Timer := .running 0 duration

/-- Whether a timer runs. -/
def Timer.isRunning : Timer → Bool
  | .stopped => false
  | .running _ _ => true

/-- Whether a running timer has counted its duration. -/
def Timer.due : Timer → Bool
  | .stopped => false
  | .running elapsed duration => duration ≤ elapsed

/-- A running timer counts `n` µs of station time. -/
def Timer.count (n : Nat) : Timer → Timer
  | .stopped => .stopped
  | .running elapsed duration => .running (elapsed + n) duration

/-- A timer that follows a condition: it starts when the condition comes to hold and stops when it ceases. -/
def Timer.follow (holds : Bool) (duration : Nat) (t : Timer) : Timer :=
  if holds then (if t.isRunning then t else .start duration) else .stopped

/-! ### Time quality (R28) and the view of a point (R37) -/

/-- Time quality is GOOD in LOCKED and HOLDOVER (R28). -/
def Part.timeGood (p : Part) : Bool := p.time.state == .locked || p.time.state == .holdover

/-- The largest phase magnitude of a reading. -/
def Reading.largest (r : Reading) : Nat := max r.magA (max r.magB r.magC)

/-- The smallest phase magnitude of a reading. -/
def Reading.smallest (r : Reading) : Nat := min r.magA (min r.magB r.magC)

/-- A point's reading as the other blocks see it (R37). -/
def Part.view (p : Part) (pt : Point) : Option Reading :=
  if (p.point pt).seen then (p.point pt).latestValid else none

/-- The dead threshold that applies to a point (R37). -/
def Part.deadThreshold (p : Part) : Point → Nat
  | .line s => (p.srcSet s).dead
  | .bus x => (p.busSet x).dead

/-- Whether a point reads dead (R37). -/
def Part.readsDead (p : Part) (pt : Point) : Bool :=
  match p.view pt with
  | some r => r.largest ≤ p.deadThreshold pt
  | none => false

/-! ### Units by their role (R10, R11, R79) -/

/-- Whether a unit map row binds a station (R10, R79). -/
def rowBound (r : UnitMapRow) : Bool := r.role != .empty && r.station.val != 0

/-- The row that holds a role and index. -/
def Part.rowOfRole (p : Part) (role : Role) : Option (Fin 32) := allRows.find? (fun r => (p.row r).role == role)

/-- The row that a station is bound in (R11). -/
def Part.rowOfStation (p : Part) (station : Nat) : Option (Fin 32) :=
  allRows.find? (fun r => rowBound (p.row r) && (p.row r).station.val == station)

/-- Whether a role is bound (R79). -/
def Part.roleBound (p : Part) (role : Role) : Bool :=
  match p.rowOfRole role with
  | some r => rowBound (p.row r)
  | none => false

/-- Whether the unit of a role is ACTIVE (R54, R167). -/
def Part.roleActive (p : Part) (role : Role) : Bool :=
  match p.rowOfRole role with
  | some r => rowBound (p.row r) && (p.unit r).state == .active
  | none => false

/-! ### Topology (R65, R69) -/

/-- The kind of a source. -/
def Part.kind (p : Part) (s : Src) : SourceKind := p.topology.kind.get s

/-- The home bus of a source. -/
def Part.home (p : Part) (s : Src) : Bus := p.topology.home.get s

/-- The bus of a group. -/
def Part.groupBus (p : Part) (g : Grp) : Bus := p.topology.groupBus.get g

/-- Whether a source is of kind UTILITY or GENERATOR. -/
def Part.used (p : Part) (s : Src) : Bool := p.kind s != .unused

/-- Whether a breaker is on a bus (R69). -/
def Part.onBus (p : Part) (b : Breaker) (x : Bus) : Bool :=
  match b with
  | .incomer s => p.home s == x
  | .coupler => true
  | .feeder g => p.groupBus g == x

/-- The source whose line side a point measures. -/
def pointSrc : Point → Option Src
  | .line s => some s
  | .bus _ => none

/-! ### Feeding (R66, R67) and the return timers (R73) -/

/-- Whether a source feeds a bus by the positions held (R66). -/
def Part.feedsBy (p : Part) (s : Src) (x : Bus) : Bool :=
  p.used s && (p.breaker (.incomer s)).position == .closed &&
    (p.home s == x || (p.breaker .coupler).position == .closed)

/-- The feed state of a bus by the positions held (R66). -/
def Part.feedBy (p : Part) (x : Bus) : FeedState :=
  match allSrcs.filter (fun s => p.feedsBy s x) with
  | [] => .unfed
  | [s] => .fed s
  | _ => .parallel

/-- The fed domain of a source by the positions held (R66). -/
def Part.domainBy (p : Part) (s : Src) : FedDomain := ⟨p.feedsBy s .a, p.feedsBy s .b⟩

/-- The fed domain of a source, as held (R66). -/
def Part.fedDomain (p : Part) (s : Src) : FedDomain := p.fedDomains.get s

/-- Whether a bus belongs to a fed domain. -/
def FedDomain.has (d : FedDomain) : Bus → Bool
  | .a => d.a
  | .b => d.b

/-- Whether a fed domain is empty. -/
def FedDomain.isEmpty (d : FedDomain) : Bool := !d.a && !d.b

/-- A parallel guard is running while its state is RUNNING or TRIPPING (R134). -/
def Part.guardRuns (p : Part) : Bool := p.guard.state != .absent

/-- The duration of an unplanned-parallel timer (R67). -/
def unplannedTime : Nat := ms 500

/-- A bus record takes a feed state: its unplanned-parallel timer starts when the bus becomes PARALLEL with no guard
running, and stops, the mark clearing, when it leaves PARALLEL (R67). -/
def BusRecord.takeFeed (r : BusRecord) (guardRuns : Bool) (feed : FeedState) : BusRecord :=
  if feed = .parallel then
    if r.feed = .parallel then { r with feed := feed }
    else { r with feed := feed, unplanned := if guardRuns then .stopped else .start unplannedTime }
  else { r with feed := feed, unplanned := .stopped, unplannedMark := false }

/-- The conditions of a bus's return timer (R73). -/
def Part.returnHolds (p : Part) (x : Bus) : Bool :=
  match p.topology.preferred.get x, (p.bus x).feed with
  | some pref, .fed s =>
    (p.busSet x).retransfer && s != pref && (p.source pref).state == .healthy && !(p.bus x).lockout
  | _, _ => false

/-- Judges the return timer of one bus (R73). -/
def Part.judgeReturn (p : Part) (x : Bus) : Part :=
  p.setBus x { p.bus x with
    returnTimer := (p.bus x).returnTimer.follow (p.returnHolds x) (seconds (p.busSet x).returnDelay) }

/-- Judges the return timers of both buses (R73). -/
def Part.judgeReturns (p : Part) : Part := (p.judgeReturn .a).judgeReturn .b

/-- Recomputes feeding from the positions and the topology, with the timers that follow it (R66, R67, R73). -/
def Part.recomputeFeeding (p : Part) : Part :=
  let q := { p with
    fedDomains := mapIndexed (fun s _ => p.domainBy s) p.fedDomains
    buses := ⟨p.buses.a.takeFeed p.guardRuns (p.feedBy .a), p.buses.b.takeFeed p.guardRuns (p.feedBy .b)⟩ }
  q.judgeReturns

/-- Whether two parts differ in a feed state or a fed domain, which is then told (R61, step 2). -/
def feedDiffers (p q : Part) : Bool :=
  p.buses.a.feed != q.buses.a.feed || p.buses.b.feed != q.buses.b.feed || p.fedDomains != q.fedDomains

/-- The hand-off of a change of feeding to the Plan Executor and the Load Manager, where there is one (R61). -/
def feedTasks (p q : Part) : List Task := if feedDiffers p q then [.feedTold] else []

/-- Whether a group's feeder is held CLOSED. -/
def Part.feederClosed (p : Part) (g : Grp) : Bool := (p.breaker (.feeder g)).position == .closed

/-- Whether a group's demand counts in the domain figures: its feeder is CLOSED, or was CLOSED when its unit dropped out
and has taken no position since (R171, R172; log 44). -/
def Part.feederCounts (p : Part) (g : Grp) : Bool :=
  p.feederClosed g || ((p.breaker (.feeder g)).position == .unknown && (p.group g).wasClosed)

/-- The row of a group once its feeder's position becomes `pos`: CLOSED clears the shed mark (R170), and a feeder that
drops out to UNKNOWN while it counts goes on counting (R171). -/
def Part.groupAt (p : Part) (g : Grp) (pos : Position) : GroupRow :=
  { p.group g with
    mark := (p.group g).mark && pos != .closed
    wasClosed := pos == .unknown && p.feederCounts g }

/-- A breaker's position becomes `pos`: its group's row follows (R170, R171), and feeding is recomputed (R66). -/
def Part.setPosition (p : Part) (b : Breaker) (pos : Position) : Part :=
  let q := p.setBreaker b { p.breaker b with position := pos }
  let q :=
    match b with
    | .feeder g => q.setGroup g (p.groupAt g pos)
    | _ => q
  q.recomputeFeeding

/-! ### Capacity (R54, R55) -/

/-- Whether a source is startable (R54). -/
def Part.startable (p : Part) (s : Src) : Bool :=
  p.kind s == .generator && (p.source s).state != .out && !(p.source s).gen.running &&
    !(p.source s).gen.startFailed && p.roleActive (.genctl s)

/-- The available capacity of a source in kW (R55). -/
def Part.capacity (p : Part) (s : Src) : Nat :=
  match p.kind s with
  | .unused => 0
  | .utility => (p.srcSet s).rated * (p.srcSet s).loading / 100
  | .generator =>
    if (p.source s).gen.running then
      (p.srcSet s).rated * (p.source s).gen.eighths * (p.srcSet s).loading / 800
    else 0

/-- The full-eighths figure of a generator (R55, R107). -/
def Part.fullEighths (p : Part) (s : Src) : Nat := (p.srcSet s).rated * 8 * (p.srcSet s).loading / 800

/-! ### Groups and domain figures (R171, R172) -/

/-- The state of a group (R171). -/
def Part.groupState (p : Part) (g : Grp) : GroupState :=
  let r := p.breaker (.feeder g)
  if r.failed || r.withdrawn || !r.remote || r.position == .unknown then .unavailable
  else if r.position == .closed then .connected
  else if (p.group g).mark then .shed
  else .off

/-- The connected demand of a source: the sum over the groups on its fed buses whose feeders are CLOSED (R172), with those
that were CLOSED when their units became LOST, whose demand still counts (R171; log 44). -/
def Part.connectedDemand (p : Part) (s : Src) : Nat :=
  ((allGrps.filter (fun g => (p.fedDomain s).has (p.groupBus g) && p.feederCounts g)).map
    (fun g => (p.group g).demand)).sum

/-- The headroom of a source, which may be negative (R172). -/
def Part.headroom (p : Part) (s : Src) : Int := (p.capacity s : Int) - (p.connectedDemand s : Int)

/-! ### The breaker test (R105) -/

/-- A breaker passes the breaker test when it is NORMAL, not withdrawn and remote-enabled (R105). -/
def Part.breakerTest (p : Part) (b : Breaker) : Bool :=
  !(p.breaker b).failed && !(p.breaker b).withdrawn && (p.breaker b).remote

end Sys2Proof.Machine
end

