-- ==== Sys2Proof/Machine/Flags.lean ====
section
/-! DEFINITION. The condition flags (R191, R192) and the Fault Log (R193, R194). -/

namespace Sys2Proof.Machine

/-- The place of a flag in the condition table (R191). -/
def flagIdx : Flag → Fin 12
  | .unitLost => 0
  | .duplicateRole => 1
  | .timeUnsynced => 2
  | .timeStepDeferred => 3
  | .scheduleLate => 4
  | .scheduleMissed => 5
  | .breakerFailed => 6
  | .serviceDue => 7
  | .capacityShort => 8
  | .restoreBlocked => 9
  | .unplannedParallel => 10
  | .lockoutActive => 11

/-- The twelve flags in the order of the condition table (R191). -/
def allFlags : List Flag :=
  [.unitLost, .duplicateRole, .timeUnsynced, .timeStepDeferred, .scheduleLate, .scheduleMissed, .breakerFailed,
    .serviceDue, .capacityShort, .restoreBlocked, .unplannedParallel, .lockoutActive]

/-- The record of a flag. -/
def Part.condition (p : Part) (f : Flag) : ConditionRecord := p.management.conditions.get (flagIdx f)

/-- Replaces the record of a flag. -/
def Part.setCondition (p : Part) (f : Flag) (v : ConditionRecord) : Part :=
  p.setManagement { p.management with conditions := p.management.conditions.set (flagIdx f) v }

/-- An owner's rule sets a flag: a clear flag becomes set, with its last-set time and tally (R191). -/
def Part.raiseFlag (p : Part) (f : Flag) : Part :=
  let c := p.condition f
  if c.set then p else p.setCondition f ⟨true, some p.now, tick16 c.tally⟩

/-- Clears a flag (R192). -/
def Part.clearFlag (p : Part) (f : Flag) : Part := p.setCondition f { p.condition f with set := false }

/-- Whether a breaker's operation count is at or above its service limit, where it has one (R63). -/
def Part.serviceDueAt (p : Part) (b : Breaker) : Bool :=
  (p.brkSet b).serviceLimit != 0 && (p.brkSet b).serviceLimit ≤ (p.breaker b).opCount

/-- SERVICE_DUE is set when a breaker's count is at or above its limit (R63). -/
def Part.judgeService (p : Part) (b : Breaker) : Part := if p.serviceDueAt b then p.raiseFlag .serviceDue else p

/-! ### The Fault Log -/

/-- The place of a fault kind in the fault tallies table (R193, R194). -/
def faultIdx : FaultKind → Fin 14
  | .breakerTimeout => 0
  | .breakerLost => 1
  | .interlock => 2
  | .syncTimeout => 3
  | .parallelTimeout => 4
  | .genStartTimeout => 5
  | .waitTimeout => 6
  | .capacity => 7
  | .noPath => 8
  | .commandMissed => 9
  | .unitLost => 10
  | .busFault => 11
  | .sourceFailed => 12
  | .uncommandedOpen => 13

/-- A fault record of a kind that names nothing yet. -/
def blankFault (kind : FaultKind) : FaultRecord := ⟨kind, 0, none, none, none, none, none, none, none, [], 0⟩

/-- A kind's tally counts a fault; one already at 255 stays there and sets the overflow mark (R194). -/
def FaultTally.countOne (t : FaultTally) : FaultTally :=
  if t.count ≥ 255 then { t with overflow := true } else { t with count := t.count + 1 }

/-- Whether a slot holds a kind. -/
def slotHolds (slot : Option FaultRecord) (kind : FaultKind) : Bool :=
  match slot with
  | some r => r.kind == kind
  | none => false

/-- A record counts a repeat, 0–255 and saturating (R193). -/
def FaultRecord.repeatOne (r : FaultRecord) : FaultRecord := { r with repeats := tick8 r.repeats }

/-- A fault is tallied, then stored by the first case of R193 that applies. -/
def FaultLog.record (log : FaultLog) (r : FaultRecord) : FaultLog :=
  let i := faultIdx r.kind
  let log := { log with tallies := log.tallies.set i (log.tallies.get i).countOne }
  match log.first, log.second with
  | none, _ => { log with first := some { r with repeats := 0 } }
  | some _, none => { log with second := some { r with repeats := 0 } }
  | some f, some s =>
    if f.kind = r.kind then { log with first := some f.repeatOne }
    else if s.kind = r.kind then { log with second := some s.repeatOne }
    else { log with dropped := tick8 log.dropped }

/-- Records a fault now (R193). -/
def Part.recordFault (p : Part) (r : FaultRecord) : Part :=
  p.setManagement { p.management with faults := p.management.faults.record { r with time := p.now } }

/-- The snapshot of a reading at a point (R193). -/
def snapshotOf (pt : Point) (r : Reading) : Snapshot := ⟨pt, r.stamp, r.magA, r.magB, r.magC, r.freq, r.angle⟩

/-- The snapshot of a point's latest valid reading, none if the point is BLIND (R69, R129, R136). -/
def Part.snapshots (p : Part) (pt : Point) : List Snapshot :=
  match p.view pt with
  | some r => [snapshotOf pt r]
  | none => []

end Sys2Proof.Machine
end

