-- ==== Sys2Proof/Machine/Load.lean ====
section
/-! DEFINITION. The Load Manager: the lead bus and the two choices (R176, R177), the capacity fit (R106), shedding
(R178–R180), restoration (R181–R183) and the shed marks (R170). Group states and domain figures (R171, R172) are worked
out from the part whenever they are read. -/

namespace Sys2Proof.Machine

/-! ### Leading and the choices (R176, R177) -/

/-- The source that a bus leads (R176). -/
def Part.leads (p : Part) (x : Bus) : Option Src :=
  match (p.bus x).feed with
  | .fed s => if p.home s = x then some s else none
  | .unfed | .parallel => none

/-- The source that a bus leads while it is LIVE (R178, R181). -/
def Part.livelyLeads (p : Part) (x : Bus) : Option Src := if (p.bus x).live = .live then p.leads x else none

/-- The frequency figure of a bus: none where its point is BLIND or its reading is CLAMPED (R178). -/
def Part.frequency (p : Part) (x : Bus) : Option Nat :=
  match p.view (.bus x) with
  | some r => if r.clamped then none else some r.freq
  | none => none

/-- The groups on the buses of a source's fed domain. -/
def Part.domainGroups (p : Part) (s : Src) : List Grp :=
  allGrps.filter (fun g => (p.fedDomain s).has (p.groupBus g))

/-- The groups of a list that have a rank of 1–15, in ascending order of rank (R106, R176). -/
def Part.byRank (p : Part) (gs : List Grp) : List Grp :=
  (List.range 15).flatMap (fun r => gs.filter (fun g => (p.group g).rank == r + 1))

/-- The shed choice for a bus (R176). -/
def Part.shedChoice (p : Part) (x : Bus) : Option Grp :=
  match (p.bus x).feed with
  | .fed s => (p.byRank ((p.domainGroups s).filter (fun g => p.groupState g == .connected))).head?
  | .unfed | .parallel => none

/-- A group is waiting when its shed mark is set, its rank is 1–15 and its manual-restore flag is clear (R177). -/
def Part.waits (p : Part) (g : Grp) : Bool :=
  (p.group g).mark && within 1 15 (p.group g).rank && !(p.group g).manual

/-- The restore candidate of a source: the waiting group of its fed domain with the highest rank (R177). -/
def Part.restoreCandidate (p : Part) (s : Src) : Option Grp :=
  (p.byRank ((p.domainGroups s).filter p.waits)).getLast?

/-- The restore choice for a bus (R177). -/
def Part.restoreChoice (p : Part) (y : Bus) : Option Grp :=
  let requested := (p.stage y).requested.filter (fun g => (p.group g).mark)
  match requested, (p.bus y).feed with
  | some g, _ => some g
  | none, .fed s => (p.restoreCandidate s).filter (fun g => p.groupBus g == y)
  | none, _ => none

/-! ### The capacity fit (R106) -/

/-- The result of a capacity fit: whether it passes, its shed list and the final D (R106). -/
structure Fit where
  pass  : Bool
  shed  : List Grp
  final : Nat
  deriving DecidableEq, Repr

/-- Groups are shed one at a time until the demand is within the capacity (R106, steps 3 and 4). -/
def fitShed (demand : Grp → Nat) (capacity : Nat) : List Grp → List Grp → Nat → Fit
  | [], done, d => ⟨d ≤ capacity, done, d⟩
  | g :: rest, done, d =>
    if d ≤ capacity then ⟨true, done, d⟩ else fitShed demand capacity rest (done ++ [g]) (d - demand g)

/-- The groups whose demand the capacity fit counts (R106, step 1). -/
def Part.fitGroups (p : Part) (buses : BusSet) : List Grp :=
  allGrps.filter (fun g => setHas buses (p.groupBus g) && p.feederClosed g)

/-- The capacity fit on a bus set with a capacity (R106). -/
def Part.fit (p : Part) (buses : BusSet) (capacity : Nat) : Fit :=
  let counted := p.fitGroups buses
  let d := (counted.map (fun g => (p.group g).demand)).sum
  let sheddable := p.byRank (counted.filter (fun g => p.breakerTest (.feeder g)))
  fitShed (fun g => (p.group g).demand) capacity sheddable [] d

/-! ### The shed stage (R178–R180) -/

/-- Load must come off bus x by its frequency: the figure is below f_shed (R178). -/
def Part.frequencyLow (p : Part) (x : Bus) : Bool :=
  match p.frequency x with
  | some f => f < (p.busSet x).fShed
  | none => false

/-- The frequency cause of bus x (R178). -/
def Part.frequencyCause (p : Part) (x : Bus) : Bool :=
  (p.livelyLeads x).isSome && p.frequencyLow x && (p.shedChoice x).isSome

/-- Whether the source that bus x leads carries more than it may (R178). -/
def Part.overloaded (p : Part) (x : Bus) : Bool :=
  match p.livelyLeads x with
  | some s => p.headroom s < 0
  | none => false

/-- The capacity cause of bus x (R178). -/
def Part.capacityCause (p : Part) (x : Bus) : Bool := p.overloaded x && (p.shedChoice x).isSome

/-- The shed stage of bus x becomes RAISED, SHED_x is raised, and its restoration stage stops (R179). -/
def shedNow (x : Bus) (p : Part) : Res :=
  (p.setStage x { p.stage x with shed := .raised, freqTimer := .stopped, capTimer := .stopped },
    [.raise (.shed x), .shedRaised x])

/-- The timers of a stage that is not RAISED follow their causes (R178). -/
def Part.followShed (p : Part) (x : Bus) (r : LoadStage) : LoadStage :=
  let f := r.freqTimer.follow (p.frequencyCause x) (ms (p.busSet x).shedDwell)
  let c := r.capTimer.follow (p.capacityCause x) (ms (p.busSet x).capacityDwell)
  { r with freqTimer := f, capTimer := c, shed := if f.isRunning || c.isRunning then .timing else .stopped }

/-- The shed stage of bus x is judged (R178). A capacity dwell of 0 expires within the event that starts it (R174). -/
def shedStage (x : Bus) (p : Part) : Res :=
  let r := p.stage x
  if r.shed = .raised ∧ (p.livelyLeads x).isSome then (p, [])
  else
    let r' := p.followShed x r
    let p := p.setStage x r'
    if r'.capTimer = .running 0 0 then shedNow x p else (p, [])

/-- The frequency stage timer of bus x expires (R179). -/
def frequencyExpiry (x : Bus) (p : Part) : Res :=
  if (p.stage x).freqTimer.due then
    let (p, told) := shedNow x p
    (p, told ++ [.load])
  else (p, [])

/-- The capacity stage timer of bus x expires (R179). -/
def capacityExpiry (x : Bus) (p : Part) : Res :=
  if (p.stage x).capTimer.due then
    let (p, told) := shedNow x p
    (p, told ++ [.load])
  else (p, [])

/-- Load must come off bus x and nothing is left that the part may shed (R180). -/
def Part.shortOn (p : Part) (x : Bus) : Bool :=
  (p.livelyLeads x).isSome && (p.frequencyLow x || p.overloaded x) && (p.shedChoice x).isNone

/-- The Load Manager's cause for CAPACITY_SHORT stands while load must come off either bus (R180). -/
def Part.capacityCauseStands (p : Part) : Bool := p.shortOn .a || p.shortOn .b

/-- The Load Manager's cause for CAPACITY_SHORT is judged for both buses (R180). -/
def capacityShort (p : Part) : Res := (if p.capacityCauseStands then p.raiseFlag .capacityShort else p, [])

/-! ### The standing causes of the condition flags (R191) -/

/-- The standing cause of a flag as its owner's rule defines it; an EVENT-only flag has none (R191). -/
def Part.standing (p : Part) : Flag → Bool
  | .unitLost => allRows.any (fun r => rowBound (p.row r) && (p.unit r).state == .lost)
  | .duplicateRole => false
  | .timeUnsynced => p.time.everLocked && (p.time.state == .unsynced || p.time.state == .locking)
  | .timeStepDeferred => p.time.stepDeferred
  | .scheduleLate => false
  | .scheduleMissed => false
  | .breakerFailed => allBreakers.any (fun b => (p.breaker b).failed)
  | .serviceDue => allBreakers.any p.serviceDueAt
  | .capacityShort => p.capacityCauseStands
  | .restoreBlocked => false
  | .unplannedParallel => (p.bus .a).unplannedMark || (p.bus .b).unplannedMark
  | .lockoutActive => (p.bus .a).lockout || (p.bus .b).lockout

/-- Sets a flag whose standing cause holds (R191, R192). -/
def Part.setIfStanding (p : Part) (f : Flag) : Part := if p.standing f then p.raiseFlag f else p

/-! ### The restoration stage (R181–R183) -/

/-- The conditions of the restoration stage of bus x (R181). -/
def Part.restoreHolds (p : Part) (x : Bus) : Bool :=
  match p.livelyLeads x, p.frequency x with
  | some s, some f =>
    (p.busSet x).fRestore ≤ f && (p.stage x).shed == .stopped && (p.domainGroups s).any p.waits
  | _, _ => false

/-- A restoration stage in STOPPED, with its timers stopped and no raised channel. -/
def LoadStage.stopRestore (r : LoadStage) : LoadStage :=
  { r with restore := .stopped, settle := .stopped, stagger := .stopped, raisedOn := none }

/-- A restoration stage in STAGGERING, with the stagger timer started. -/
def LoadStage.startStagger (r : LoadStage) (time : Nat) : LoadStage :=
  { r with restore := .staggering, settle := .stopped, stagger := .start (seconds time), raisedOn := none }

/-- The restoration stage of bus x is judged (R181, R183). -/
def restoreStage (x : Bus) (p : Part) : Res :=
  let r := p.stage x
  let holds := p.restoreHolds x
  match r.restore with
  | .stopped =>
    if holds && p.exec.state == .idle then
      (p.setStage x { r with restore := .settling, settle := .start (seconds (p.busSet x).settle) }, [])
    else (p, [])
  | .settling | .staggering | .raised => (if holds then p else p.setStage x r.stopRestore, [])

/-- SHED_x has been raised: the restoration stage of x stops, and is judged again (R179, step 3; R183). -/
def shedRaised (x : Bus) (p : Part) : Res := restoreStage x (p.setStage x (p.stage x).stopRestore)

/-- The settle timer of bus x expires: the stage becomes STAGGERING (R181). -/
def settleExpiry (x : Bus) (p : Part) : Res :=
  let r := p.stage x
  if r.settle.due then
    if r.restore = .settling then (p.setStage x (r.startStagger (p.busSet x).stagger), [.load])
    else (p.setStage x { r with settle := .stopped }, [])
  else (p, [])

/-- The restore candidate cannot come back now: the stage is blocked for a reason, and the stagger timer starts again
(R182). -/
def restoreBlocked (x : Bus) (g : Grp) (reason : BlockReason) (p : Part) : Part :=
  let r := (p.stage x).startStagger (p.busSet x).stagger
  (p.setStage x { r with block := reason, lastCandidate := some g }).raiseFlag .restoreBlocked

/-- The restore candidate of the source that bus x leads is judged at a stagger expiry (R182). -/
def judgeCandidate (x : Bus) (p : Part) : Res :=
  let r := p.stage x
  match p.leads x with
  | none => (p.setStage x r.stopRestore, [])
  | some s =>
    match p.restoreCandidate s with
    | none => (p.setStage x { r.stopRestore with lastCandidate := none }, [])
    | some g =>
      if p.groupState g = .unavailable then (restoreBlocked x g .unavailable p, [])
      else if p.headroom s < ((p.group g).demand : Int) then (restoreBlocked x g .noFit p, [])
      else
        let y := p.groupBus g
        let r :=
          { r with
            restore := .raised
            stagger := .stopped
            raisedOn := some y
            lastCandidate := some g
            block := .none }
        (p.setStage x r, [.raise (.restore y)])

/-- The stagger timer of bus x expires (R182). -/
def staggerExpiry (x : Bus) (p : Part) : Res :=
  let r := p.stage x
  if r.stagger.due then
    if r.restore = .staggering then
      let (p, told) := judgeCandidate x p
      (p, told ++ [.load])
    else (p.setStage x { r with stagger := .stopped }, [])
  else (p, [])

/-- The outcome of RESTORE_y is recorded: a stage raised on it goes on to STAGGERING, or stops (R183). -/
def restoreOutcome (c : Channel) (p : Part) : Res :=
  let judge (x : Bus) (p : Part) : Part :=
    let r := p.stage x
    match r.restore, r.raisedOn with
    | .raised, some y =>
      if c = .restore y then
        p.setStage x (if p.restoreHolds x then r.startStagger (p.busSet x).stagger else r.stopRestore)
      else p
    | _, _ => p
  (judge .b (judge .a p), [])

/-! ### Events of the Load Manager (R173) -/

/-- Steps 3 to 5 of an event that reaches the Load Manager; steps 1 and 2 are worked out where they are read (R173).
DESIGN CHOICE (log 45): the spec gives the two buses no order within steps 3 and 5; A is judged before B. -/
def load (p : Part) : Res :=
  (p, [.shedStage .a, .shedStage .b, .capacityShort, .restoreStage .a, .restoreStage .b])

/-- A shed stage that is RAISED becomes STOPPED (R179). -/
def LoadStage.endRaise (r : LoadStage) : LoadStage := if r.shed = .raised then { r with shed := .stopped } else r

/-- The last outcome of SHED_x or RESTORE_y is recorded (R90, R173, R179, R183). -/
def loadOutcome (c : Channel) (p : Part) : Res :=
  match c with
  | .shed x => (p.setStage x (p.stage x).endRaise, [.load])
  | .restore _ =>
    (p, [.shedStage .a, .shedStage .b, .capacityShort, .restoreOutcome c, .restoreStage .a, .restoreStage .b])
  | _ => (p, [])

/-- START is accepted: both stages of each bus leave RAISED and are judged (R80, R179, R183). -/
def loadStart (p : Part) : Res :=
  let reset (r : LoadStage) : LoadStage := if r.restore = .raised then r.endRaise.stopRestore else r.endRaise
  (((p.setStage .a (reset (p.stage .a))).setStage .b (reset (p.stage .b))), [.load])

/-- A shed of a group is confirmed: its shed mark is set (R128, R170). -/
def shedMark (g : Grp) (p : Part) : Res := (p.setGroup g { p.group g with mark := true }, [.load])

end Sys2Proof.Machine
end

