-- ==== Sys2Proof/Machine/Selector.lean ====
section
/-! DEFINITION. The Plan Selector: the reference check (R101), judging a template (R103–R105, R107), selecting a plan
(R102, R108, R111–R113) and the selection record (R110). -/

namespace Sys2Proof.Machine

/-! ### The reference check (R101) -/

/-- A template. -/
def Part.template (p : Part) (n : Fin 24) : Template := p.templates.get n

/-- Whether a point belongs to a source of a used kind, where it is a line-side point (R101). -/
def Part.pointUsed (p : Part) (pt : Point) : Bool :=
  match pointSrc pt with
  | some s => p.used s
  | none => true

/-- Whether a breaker belongs to a source of a used kind, where it is an incomer (R101). -/
def Part.breakerUsed (p : Part) : Breaker → Bool
  | .incomer s => p.used s
  | .coupler | .feeder _ => true

/-- Whether what a step names agrees with the topology (R101). -/
def Part.stepRefers (p : Part) : Step → Bool
  | .opn b _ => p.breakerUsed b
  | .close b _ => p.breakerUsed b
  | .sync b r i _ => p.breakerUsed b && p.pointUsed r && p.pointUsed i
  | .waitDead q _ _ => p.pointUsed q
  | .dwell _ => true
  | .run s => p.kind s == .generator
  | .stop s => p.kind s == .generator
  | .waitHealthy s _ => p.used s
  | .shedFit s _ => p.used s

/-- The source of a capacity check is of a used kind (R101). -/
def Part.checkRefers (p : Part) : Option (Src × BusSet) → Bool
  | some (s, _) => p.used s
  | none => true

/-- The reference check of a template: an empty one passes (R101). -/
def Part.templateRefers (p : Part) (t : Template) : Bool :=
  t.steps.isEmpty || (t.required.all (fun r => p.used r.1) && p.checkRefers t.capacity && t.steps.all p.stepRefers)

/-- The reference check of a candidate list: no number in it names an empty template (R101). -/
def Part.listRefers (p : Part) (l : List (Fin 24)) : Bool := l.all (fun n => !(p.template n).steps.isEmpty)

/-! ### Judging a template (R103) -/

/-- Whether a required source is in its required state (R104). -/
def Part.sourceMet (p : Part) (r : Src × RequiredMark) : Bool :=
  (p.source r.1).state == .healthy || (r.2 == .healthyOrStartable && p.startable r.1)

/-- The breaker that a step references (R98). -/
def stepBreaker : Step → Option Breaker
  | .opn b _ => some b
  | .close b _ => some b
  | .sync b _ _ _ => some b
  | _ => none

/-- The breaker that a step closes (R105). -/
def stepCloses : Step → Option Breaker
  | .close b _ => some b
  | .sync b _ _ _ => some b
  | _ => none

/-- Whether a breaker is on a bus in LOCKOUT (R69, R105). -/
def Part.onLockout (p : Part) (b : Breaker) : Bool := allBuses.any (fun x => p.onBus b x && (p.bus x).lockout)

/-- The C of a template's capacity check (R107). -/
def Part.checkCapacity (p : Part) (t : Template) (s : Src) : Nat :=
  if p.kind s == .generator && !(p.source s).gen.running && p.startable s &&
      t.required.contains (s, .healthyOrStartable) then p.fullEighths s
  else p.capacity s

/-- The result of a template at a take, with C and the final D where its capacity check was worked (R103, R110). -/
def Part.judgeTemplate (p : Part) (t : Template) : TemplateResult × Option (Nat × Nat) :=
  if t.steps.isEmpty then (.empty, none)
  else if !p.templateRefers t then (.reference, none)
  else if !t.required.all p.sourceMet then (.source, none)
  else if !(t.steps.filterMap stepBreaker).all p.breakerTest then (.breaker, none)
  else if (t.steps.filterMap stepCloses).any p.onLockout then (.lockout, none)
  else if t.closed && !p.timeGood then (.time, none)
  else
    match t.capacity with
    | none => (.chosen, none)
    | some (s, buses) =>
      let c := p.checkCapacity t s
      let fit := p.fit buses c
      (if fit.pass then .chosen else .capacity, some (c, fit.final))

/-! ### Selecting a plan (R102) -/

/-- The templates of a list judged in order; those after the chosen one are NOT_JUDGED (R102, R110). -/
def Part.judgeList (p : Part) : List (Fin 24) → List Candidate
  | [] => []
  | n :: rest =>
    let (result, figures) := p.judgeTemplate (p.template n)
    ⟨n, result, figures⟩ ::
      (if result = .chosen then rest.map (fun m => ⟨m, .notJudged, none⟩) else p.judgeList rest)

/-- The template that was chosen, if one was. -/
def chosenOf (cs : List Candidate) : Option (Fin 24) := (cs.find? (fun c => c.result == .chosen)).map (·.template)

/-- A template's plan for a channel (R102). -/
def Part.templatePlan (p : Part) (c : Channel) (n : Fin 24) : Plan :=
  ⟨c, .number n, (p.template n).nameTag, (p.template n).steps, none⟩

/-- A built-in plan of one step on a group's feeder (R112, R113). -/
def builtInPlan (c : Channel) (g : Grp) (step : Step) : Plan := ⟨c, .builtIn, 0, [step], some g⟩

/-- The built-in shed plan (R112). -/
def Part.shedPlan (p : Part) (x : Bus) : BuiltInResult × Option Grp × Option Plan :=
  match (p.bus x).feed with
  | .fed _ =>
    match p.shedChoice x with
    | none => (.noGroup, none, none)
    | some g =>
      if p.breakerTest (.feeder g) then (.formed, some g, some (builtInPlan (.shed x) g (.opn (.feeder g) false)))
      else (.breaker, some g, none)
  | .unfed | .parallel => (.notFed, none, none)

/-- The built-in restore plan (R113). -/
def Part.restorePlan (p : Part) (y : Bus) : BuiltInResult × Option Grp × Option Plan :=
  match (p.bus y).feed with
  | .fed s =>
    match p.restoreChoice y with
    | none => (.noGroup, none, none)
    | some g =>
      if p.headroom s < ((p.group g).demand : Int) then (.noFit, some g, none)
      else if !p.breakerTest (.feeder g) then (.breaker, some g, none)
      else if (p.bus y).lockout then (.lockout, some g, none)
      else (.formed, some g, some (builtInPlan (.restore y) g (.close (.feeder g) false)))
  | .unfed | .parallel => (.notFed, none, none)

/-- What a selection answers: the plan, or NO_PATH; and the selection record (R102, R110). -/
structure Selection where
  plan   : Option Plan
  record : SelectionRecord
  deriving DecidableEq, Repr

/-- The selection from templates judged in order (R102, R111). -/
def Part.selectFrom (p : Part) (c : Channel) (source : PlanFrom) (numbers : List (Fin 24)) : Selection :=
  let cs := p.judgeList numbers
  let chosen := chosenOf cs
  ⟨chosen.map (p.templatePlan c), ⟨c, p.now, source, cs, none, chosen.map .number⟩⟩

/-- The selection of a built-in plan (R112, R113). -/
def Part.selectBuiltIn (p : Part) (c : Channel) (r : BuiltInResult × Option Grp × Option Plan) : Selection :=
  ⟨r.2.2, ⟨c, p.now, .builtIn, [], some (r.1, r.2.1), r.2.2.map (fun _ => .builtIn)⟩⟩

/-- The selection for a taken channel (R102). -/
def Part.choosePlan (p : Part) (c : Channel) : Selection :=
  match c with
  | .operator | .test => p.selectFrom c .requested (p.channel c).requested.toList
  | .shed x => p.selectBuiltIn c (p.shedPlan x)
  | .restore y => p.selectBuiltIn c (p.restorePlan y)
  | .fault _ | .lost _ | .retn _ =>
    p.selectFrom c .list
      (match c.listIdx with
        | some i => p.candidates.get i
        | none => [])

/-- The last template judged, if one was (R109). -/
def lastJudged (cs : List Candidate) : Option TemplateRef :=
  (cs.filter (fun c => c.result != .notJudged)).getLast?.map (fun c => .number c.template)

/-- Whether a NO_PATH sets CAPACITY_SHORT (R109). -/
def shortByPath (r : SelectionRecord) : Bool :=
  (!r.candidates.isEmpty && r.candidates.all (fun c => c.result == .capacity)) ||
    (match r.channel, r.builtIn with
      | .shed _, some (.noGroup, _) => true
      | _, _ => false)

/-- The NO_PATH fault: the channel, its bus where it has one, and the last template judged (R109). -/
def noPathFault (r : SelectionRecord) : FaultRecord :=
  { blankFault .noPath with
    channel := some r.channel
    bus := r.channel.bus?.map oneBus
    template := lastJudged r.candidates }

/-- A requested group is removed at every take of its RESTORE channel (R177). -/
def takeRequested (c : Channel) (p : Part) : Part :=
  match c with
  | .restore y => p.setStage y { p.stage y with requested := none }
  | _ => p

end Sys2Proof.Machine
end

