-- ==== Sys2Proof/Machine/Channels.lean ====
section
/-! DEFINITION. The Request Arbiter: raising (R85), taking (R88, R89), plan ends (R90, R91), preemption (R93, R94),
entering HALTED (R82), and what an accepted START does to the arbiter (R80). -/

namespace Sys2Proof.Machine

/-- A channel is eligible when it is pending, enabled and not masked (R83). -/
def Part.eligible (p : Part) (c : Channel) : Bool :=
  (p.channel c).pending && (p.channel c).enable && !(p.channel c).mask

/-- The engaged channel, RUNNING or HELD, if there is one (R83). -/
def Part.engagedChannel (p : Part) : Option Channel :=
  Channel.descending.find? (fun c => (p.channel c).engaged != .no)

/-- The channel whose plan holds the executor, if there is one. -/
def Part.runningChannel (p : Part) : Option Channel :=
  Channel.descending.find? (fun c => (p.channel c).engaged == .running)

/-- The eligible channel with the highest number. -/
def Part.highest (p : Part) : Option Channel := Channel.descending.find? p.eligible

/-- A channel's engaged field is changed. -/
def Part.engage (p : Part) (c : Channel) (e : Engaged) : Part := p.setChannel c { p.channel c with engaged := e }

/-- A channel's last outcome is recorded; for SHED and RESTORE the Load Manager is told (R90). -/
def recordOutcome (c : Channel) (o : ChannelOutcome) (p : Part) : Res :=
  (p.setChannel c { p.channel c with outcome := some o },
    match c with
    | .shed _ | .restore _ => [.loadOutcome c]
    | _ => [])

/-- A raiser raises a channel (R85). A raise that makes it pending is judged for a take and for preemption. -/
def raise (c : Channel) (p : Part) : Res :=
  let r := p.channel c
  let r := { r with tally := tick16 r.tally }
  if r.enable && !r.pending then (p.setChannel c { r with pending := true }, [.judgeTake, .judgePreempt])
  else (p.setChannel c r, [])

/-- The channel that a take would take now, if one can be made (R88). Within an accepted START, and while a take is
being carried out, none is. -/
def Part.takeable (p : Part) : Option Channel :=
  if p.arbiter.mode == .auto && !p.arbiter.halt && !p.arbiter.inStart && p.exec.state == .idle &&
      p.runningChannel.isNone then
    p.highest.filter (fun c =>
      match p.engagedChannel with
      | some h => h.idx < c.idx
      | none => true)
  else none

/-- The taking rule is judged (R88), and a take is begun: steps 1 and 2 of R89. -/
def judgeTake (p : Part) : Res :=
  match p.takeable with
  | none => (p, [])
  | some c =>
    let held := p.engagedChannel
    let p := p.setChannel c { p.channel c with pending := false, engaged := .running }
    match held with
    | none => (p, [.select c, .judgePreempt])
    | some h =>
      let (p, told) := recordOutcome h .superseded (p.engage h .no)
      (p, told ++ [.select c, .judgePreempt])

/-- A plan record at the hand-over (R116). -/
def planRecordOf (pl : Plan) (serial now : Nat) : PlanRecord :=
  { serial := serial
    channel := pl.channel
    template := pl.template
    nameTag := pl.nameTag
    group := pl.group
    start := now
    ended := none
    outcome := none
    steps := pl.steps.mapIdx (fun i s => ⟨s, if i = 0 then none else some .notReached, none, []⟩)
    guard := ⟨.none, none, none, none⟩ }

/-- A plan is handed to the Plan Executor, which leaves IDLE and begins it (R115). -/
def handPlan (pl : Plan) (p : Part) : Res :=
  let serial := p.exec.serial + 1
  ({ p with
     previousPlan := p.currentPlan
     currentPlan := some (planRecordOf pl serial p.now)
     exec :=
      { ExecRecord.init serial with
        state := .running
        plan := some pl
        step := 1 } }, [.load, .beginStep serial 1])

/-- A taken channel's plan is selected and handed over, or it ends with NO_PATH (R89, steps 3 to 5; R109, R110). -/
def select (c : Channel) (p : Part) : Res :=
  let s := p.choosePlan c
  let p := takeRequested c { p with selection := some s.record }
  let p := p.setChannel c { p.channel c with template := s.record.outcome }
  match s.plan with
  | some pl => handPlan pl p
  | none =>
    let p := p.recordFault (noPathFault s.record)
    let p := if shortByPath s.record then p.raiseFlag .capacityShort else p
    let (p, told) := recordOutcome c .noPath p
    (p, told ++ [.endEngagement c])

/-- The outcome that a plan's end gives its channel (R90). -/
def channelOutcomeOf : PlanOutcome → ChannelOutcome
  | .completed => .completed
  | .failed r => .failed r
  | .aborted _ => .aborted

/-- The Plan Executor reports that the plan's end is decided (R90). -/
def planEnded (o : PlanOutcome) (p : Part) : Res :=
  match p.runningChannel with
  | some c => recordOutcome c (channelOutcomeOf o) p
  | none => (p, [])

/-- A channel's engagement ends by its completion mode, and a take is judged (R91). -/
def endEngagement (c : Channel) (p : Part) : Res :=
  if (p.channel c).engaged = .running then
    (p.engage c (if (p.channel c).mode = .selfRelease then .no else .held), [.judgeTake])
  else (p, [.judgeTake])

/-- The part enters HALTED (R82). -/
def enterHalted (p : Part) : Part :=
  { p with
    arbiter := ⟨.halted, false, false, .none, p.arbiter.inStart⟩
    channels := mapAll (fun r => { r with engaged := .no }) p.channels }

/-- The Plan Executor reports that it is IDLE (R82, R91, R94). -/
def arbiterIdle (p : Part) : Res :=
  if p.arbiter.halt then (enterHalted p, [])
  else if p.arbiter.abort = .preempt then
    let q := { p with arbiter := { p.arbiter with abort := .none } }
    match p.runningChannel with
    | some c =>
      let r := p.channel c
      (q.setChannel c { r with engaged := .no, pending := r.pending || r.enable }, [.judgeTake])
    | none => (q, [.judgeTake])
  else
    match p.runningChannel with
    | some c => (p, [.endEngagement c])
    | none => (p, [.judgeTake])

/-- The preemption rule is judged: an eligible channel above the running one has its plan aborted (R93). -/
def judgePreempt (p : Part) : Res :=
  match p.runningChannel, p.highest with
  | some c, some h =>
    if p.exec.state == .running && !p.arbiter.halt && p.arbiter.abort == .none && c.idx < h.idx then
      ({ p with arbiter := { p.arbiter with abort := .preempt } }, [.abort .preempt])
    else (p, [])
  | _, _ => (p, [])

/-- Steps 1 and 2 of an accepted START: the channels are cleared and the run mode becomes AUTO (R80). -/
def beginAuto (p : Part) : Part :=
  { p with
    arbiter := ⟨.auto, true, false, .none, true⟩
    channels := mapAll (fun r => { r with pending := false, engaged := .no }) p.channels }

/-- Step 5 of an accepted START: the raises made within it are judged for a take, once (R80). -/
def afterStart (p : Part) : Res :=
  ({ p with arbiter := { p.arbiter with inStart := false } }, [.judgeTake, .judgePreempt])

end Sys2Proof.Machine
end

