-- ==== Sys2Proof/Machine/Breakers.lean ====
section
/-! DEFINITION. The Breaker and Bus Monitor: state reports and the position filter (R56–R61), lost units (R59), bus live
states (R68), the raisers (R69, R71–R74), the unplanned-parallel timers (R67) and the closing interlock (R75–R77). -/

namespace Sys2Proof.Machine

/-! ### State reports (R56–R61) -/

/-- The position that a report shows. -/
def positionOf : ReportedPosition → Position
  | .opn => .opn
  | .closed => .closed
  | .travel => .travel
  | .faulty => .faulty

/-- The position an action asks for (R58). -/
def askedPosition : Action → Option Position
  | .opn => some .opn
  | .close => some .closed
  | .run => none
  | .stop => none

/-- Whether the schedule holds a SENT entry for a breaker that asks for a position (R58). -/
def Part.sentAsks (p : Part) (b : Breaker) (pos : Position) : Bool :=
  p.schedule.entries.any (fun e => e.sent && e.target == .breaker b && askedPosition e.action == some pos)

/-- The echo a report leaves as the latest (R56). -/
def echoOf (r : BreakerReport) : Option (CmdNum × EchoResult) :=
  if r.echo = .noCommand then none else some (r.echoNum, r.echo)

/-- What the position filter makes of a report (R58). -/
inductive Filtered where
  | kept
  | commanded
  | uncommanded
  deriving DecidableEq, Repr

/-- The position filter (R58). -/
def Part.filter (p : Part) (b : Breaker) (reported : ReportedPosition) : Filtered :=
  let r := p.breaker b
  if positionOf reported = r.position then .kept
  else if p.sentAsks b (positionOf reported) then .commanded
  else if r.lastReported = some reported then .uncommanded
  else .kept

/-- A breaker record with a report's flags, trip cause, echo and reported position (R56, R58). -/
def BreakerRecord.report (r : BreakerRecord) (b : BreakerReport) : BreakerRecord :=
  { r with
    lastReported := some b.position
    ready := b.ready
    remote := b.remote
    withdrawn := b.withdrawn
    trip := b.trip
    echo := echoOf b }

/-- Whether a change taken under case 3 of the filter is an uncommanded opening (R60). -/
def uncommandedOpening (before : Position) (what : Filtered) (after : ReportedPosition) : Bool :=
  what == .uncommanded && after == .opn && (before == .closed || before == .travel || before == .faulty)

/-- Whether a breaker is an incomer or the coupler, and not a feeder. -/
def feedsBus : Breaker → Bool
  | .feeder _ => false
  | _ => true

/-- Whether a change is an incomer or the coupler on its way out with no SENT OPEN for it (R71). -/
def Part.wayOut (p : Part) (b : Breaker) (what : Filtered) (after : ReportedPosition) : Bool :=
  what == .uncommanded && feedsBus b && (p.breaker b).position == .closed &&
    (after == .travel || after == .faulty) && !p.sentAsks b .opn

/-- The buses that go from FED to UNFED between two parts (R71), A before B (DESIGN CHOICE, log 46). -/
def busesLost (p q : Part) : List Bus :=
  allBuses.filter (fun x =>
    (match (p.bus x).feed with
      | .fed _ => true
      | _ => false) && (q.bus x).feed == .unfed)

/-- An uncommanded opening is tallied, and recorded for an incomer or the coupler (R60). -/
def countUncommanded (b : Breaker) (p : Part) : Part :=
  let r := p.breaker b
  let p := p.setBreaker b { r with uncommanded := tick16 r.uncommanded }
  let f := { blankFault .uncommandedOpen with breaker := some b }
  match b with
  | .incomer s => p.recordFault { f with source := some s }
  | .coupler => p.recordFault f
  | .feeder _ => p

/-- Whether a breaker's position, service state or flags differ (R61, step 5). -/
def recordDiffers (a b : BreakerRecord) : Bool :=
  a.position != b.position || a.failed != b.failed || a.ready != b.ready || a.remote != b.remote ||
    a.withdrawn != b.withdrawn

/-- The hand-offs of step 3 of R61 for a report: FAULT on a new BUSBAR trip cause, then LOST. DESIGN CHOICE
(logs 15, 46): of two buses, A comes before B in each. -/
def reportRaises (b : Breaker) (busbar : Bool) (lost : List Bus) (p : Part) : List Task :=
  (if busbar then (allBuses.filter (p.onBus b)).map (fun x => Task.busFault x b) else []) ++ lost.map .raiseLost

/-- A STATE frame passed on for a breaker (R56, R58, R60, R61). -/
def takeReport (b : Breaker) (r : BreakerReport) (p : Part) : Res :=
  let old := p.breaker b
  let what := p.filter b r.position
  let opening := uncommandedOpening old.position what r.position
  let out := p.wayOut b what r.position
  let q := p.setBreaker b (old.report r)
  let q := if what = .kept then q else q.setPosition b (positionOf r.position)
  let q := if opening then countUncommanded b q else q
  let lost := if opening || out then busesLost p q else []
  let busbar := r.trip == .busbar && old.trip != .busbar
  (q, feedTasks p q ++ reportRaises b busbar lost q ++ [.breakerEntries b] ++
    (if !feedsBus b || recordDiffers old (q.breaker b) then [.load] else []))

/-- A breaker's unit enters LOST or is unbound: its position becomes UNKNOWN (R59, R61). The
demand of a feeder that was CLOSED still counts in the domain figures (R171; log 44). -/
def breakerGone (b : Breaker) (p : Part) : Res :=
  let old := p.breaker b
  let q := p.setBreaker b { old with lastReported := none, ready := false, remote := false, withdrawn := false }
  if old.position = .unknown then (q, [])
  else
    let q := q.setPosition b .unknown
    (q, feedTasks p q ++ [.load])

/-- The hand-offs of a change of feeding: the Plan Executor's guard, then the Load Manager (R61, step 2). -/
def feedTold (p : Part) : Res := (p, [.guardFeed, .load])

/-! ### Bus live states (R68) and the dead-confirm timers (R72) -/

/-- The live state of a bus as its point now shows it (R68). DESIGN CHOICE (log 37): a reading that meets both LIVE and
DEAD, which the ranges of the two thresholds allow, is LIVE. -/
def Part.liveBy (p : Part) (x : Bus) : LiveState :=
  match p.view (.bus x) with
  | none => .blind
  | some r =>
    if (p.busSet x).live ≤ r.smallest then .live
    else if r.largest ≤ (p.busSet x).dead then .dead
    else .part

/-- A bus record's dead-confirm timer starts, and records the feed at dead (R72). -/
def BusRecord.startDead (r : BusRecord) (time : Nat) : BusRecord :=
  { r with deadConfirm := .start (ms time), feedAtDead := r.feed }

/-- The live state of a bus is judged; a change drives the dead-confirm timer and is told to the Load Manager (R68,
R72). -/
def liveState (x : Bus) (p : Part) : Res :=
  let r := p.bus x
  let new := p.liveBy x
  if new = r.live then (p, [])
  else if new = .dead then (p.setBus x ({ r with live := new }.startDead (p.busSet x).deadConfirm), [.load])
  else (p.setBus x { r with live := new, deadConfirm := .stopped }, [.load])

/-- The dead-confirm timer of a bus expires (R72). -/
def deadConfirmExpiry (x : Bus) (p : Part) : Res :=
  let r := p.bus x
  if r.deadConfirm.due then
    let p := p.setBus x { r with deadConfirm := .stopped }
    if !r.lockout && p.exec.state == .idle && r.feedAtDead != .unfed then (p, [.raise (.lost x)]) else (p, [])
  else (p, [])

/-- The Plan Executor has become IDLE: a bus that is DEAD and still fed times again (R72). -/
def monitorIdle (p : Part) : Part :=
  let again (x : Bus) (p : Part) : Part :=
    let r := p.bus x
    if r.live = .dead ∧ !r.lockout ∧ r.feed ≠ .unfed ∧ !r.deadConfirm.isRunning then
      p.setBus x (r.startDead (p.busSet x).deadConfirm)
    else p
  again .b (again .a p)

/-! ### The raisers (R69, R71, R73, R74) -/

/-- A new BUSBAR trip cause on a bus: LOCKOUT, its condition and its fault where it was not locked out, and FAULT is
raised (R69). -/
def busFault (x : Bus) (b : Breaker) (p : Part) : Res :=
  if (p.bus x).lockout then (p, [.raise (.fault x)])
  else
    let p := p.setBus x { p.bus x with lockout := true }
    let p := (p.judgeReturn x).raiseFlag .lockoutActive
    let f :=
      { blankFault .busFault with breaker := some b, bus := some (oneBus x), snapshots := p.snapshots (.bus x) }
    (p.recordFault f, [.raise (.fault x)])

/-- LOST is raised for a bus that is not in LOCKOUT (R71). -/
def raiseLost (x : Bus) (p : Part) : Res := (p, if (p.bus x).lockout then [] else [.raise (.lost x)])

/-- The return timer of a bus expires: RETURN is raised, and the timer starts again while its conditions hold (R73). -/
def returnExpiry (x : Bus) (p : Part) : Res :=
  if (p.bus x).returnTimer.due then
    ((p.setBus x { p.bus x with returnTimer := .stopped }).judgeReturn x, [.raise (.retn x)])
  else (p, [])

/-- Whether a bus has a preferred source or a source of a used kind homed on it (R74). -/
def Part.hasSupply (p : Part) (x : Bus) : Bool :=
  (p.topology.preferred.get x).isSome || allSrcs.any (fun s => p.used s && p.home s == x)

/-- A bus is judged at START as if its conditions had just arisen (R74). -/
def startBus (x : Bus) (p : Part) : Res :=
  let r := p.bus x
  let lost := !r.lockout && p.hasSupply x && (r.live != .live || r.feed == .unfed)
  ((p.setBus x { r with returnTimer := .stopped }).judgeReturn x, if lost then [.raise (.lost x)] else [])

/-! ### The unplanned-parallel timers (R67) -/

/-- The unplanned-parallel timer of a bus expires: the bus is marked and the condition is set (R67). -/
def unplannedExpiry (x : Bus) (p : Part) : Res :=
  let r := p.bus x
  if r.unplanned.due then
    ((p.setBus x { r with unplanned := .stopped, unplannedMark := true }).raiseFlag .unplannedParallel, [])
  else (p, [])

/-- A parallel guard starts: the timers stop and the marks clear (R67). -/
def guardStarted (p : Part) : Part :=
  let f (r : BusRecord) : BusRecord := { r with unplanned := .stopped, unplannedMark := false }
  { p with buses := ⟨f p.buses.a, f p.buses.b⟩ }

/-- A parallel guard ends: the timer starts for each bus that is still PARALLEL (R67). -/
def guardEnded (p : Part) : Part :=
  let f (r : BusRecord) : BusRecord :=
    if r.feed = .parallel then { r with unplanned := .start unplannedTime } else r
  { p with buses := ⟨f p.buses.a, f p.buses.b⟩ }

/-! ### Service state (R64) -/

/-- A breaker becomes FAILED and BREAKER_FAILED is set (R64). -/
def breakerFails (b : Breaker) (p : Part) : Part :=
  (p.setBreaker b { p.breaker b with failed := true }).raiseFlag .breakerFailed

/-! ### The closing interlock (R75–R77) -/

/-- Whether a breaker's position is not OPEN, so that a source could reach through it (R75). -/
def Part.notOpen (p : Part) (b : Breaker) : Bool := (p.breaker b).position != .opn

/-- The sources that could reach a bus through their own incomers (R75). -/
def Part.reach (p : Part) (x : Bus) : List Src :=
  allSrcs.filter (fun s => p.used s && p.home s == x && p.notOpen (.incomer s))

/-- The sources that could reach the two sides that a close would join (R75). -/
def Part.sides (p : Part) : Breaker → List Src × List Src
  | .incomer s =>
    let x := p.home s
    let far := if p.notOpen .coupler then p.reach (otherBus x) else []
    (if p.used s then [s] else [], (p.reach x).filter (· != s) ++ far)
  | .coupler => (p.reach .a, p.reach .b)
  | .feeder _ => ([], [])

/-- The buses that a close would join (R75). -/
def Part.joins (p : Part) : Breaker → List Bus
  | .incomer s => if p.notOpen .coupler then [p.home s, otherBus (p.home s)] else [p.home s]
  | .coupler => allBuses
  | .feeder g => [p.groupBus g]

/-- A source on a side is energised unless its point reads dead (R75). -/
def Part.energised (p : Part) (s : Src) : Bool := !p.readsDead (.line s)

/-- The first cause that blocks a CLOSE (R76). -/
def Part.closeBlock (p : Part) (b : Breaker) (fromSync : Bool) : Option BlockCause :=
  let (first, second) := p.sides b
  let r := p.breaker b
  if first.any p.energised && second.any p.energised && !fromSync then some .twoSources
  else if (p.joins b).any (fun x => (p.bus x).lockout) then some .lockout
  else if r.withdrawn then some .withdrawn
  else if !r.remote then some .notRemote
  else if !r.ready then some .notReady
  else none

/-- The Monitor's judgement of a command that is about to be sent (R76, R77). -/
def Part.blockCause (p : Part) (b : Breaker) (action : Action) (owner : Owner) : Option BlockCause :=
  match owner with
  | .guard _ => if action = .close then p.closeBlock b false else none
  | _ =>
    if (p.breaker b).failed then some .failed
    else if action = .close then
      p.closeBlock b (match owner with
        | .attempt .. => true
        | _ => false)
    else none

/-- A blocked command counts in its breaker's interlock tally (R76, R77). -/
def countInterlock (b : Breaker) (p : Part) : Part :=
  p.setBreaker b { p.breaker b with interlock := tick16 (p.breaker b).interlock }

end Sys2Proof.Machine
end

