-- ==== Sys2Proof/Machine/Link.lean ====
section
/-! DEFINITION. The Link Port: receiving and forwarding (R2–R5), the egress arbiter and the own-frame slots (R5–R8), the
unit map (R11, R12), unit supervision (R13–R17) and the port tallies (R18). -/

namespace Sys2Proof.Machine

/-- The port that is not `k`. -/
def otherPort : Port → Port
  | .one => .two
  | .two => .one

/-! ### Port tallies (R18) -/

/-- A port's tallies after a change. -/
def Part.tally (p : Part) (k : Port) (f : PortTallies → PortTallies) : Part :=
  p.setPort k { p.port k with tallies := f (p.port k).tallies }

/-- Check tally +1. -/
def countCheck (t : PortTallies) : PortTallies := { t with check := tick16 t.check }
/-- Loop tally +1. -/
def countLoop (t : PortTallies) : PortTallies := { t with loop := tick16 t.loop }
/-- Format tally +1. -/
def countFormat (t : PortTallies) : PortTallies := { t with format := tick16 t.format }
/-- Unmapped tally +1. -/
def countUnmapped (t : PortTallies) : PortTallies := { t with unmapped := tick16 t.unmapped }
/-- Overflow tally +1. -/
def countOverflow (t : PortTallies) : PortTallies := { t with overflow := tick16 t.overflow }
/-- Discard tally +n. -/
def countDiscard (n : Nat) (t : PortTallies) : PortTallies := { t with discard := satAdd 65535 n t.discard }
/-- Response-drop tally +1. -/
def countResponseDrop (t : PortTallies) : PortTallies := { t with responseDrop := tick16 t.responseDrop }

/-! ### The egress arbiter and the slots (R4–R8) -/

/-- The depth of a forward queue (R4). -/
def queueDepth : Nat := 8

/-- What a port's arbiter takes, and the port as the transmission begins: the Command frame, the oldest forwarded
frame, the Response frame, the Status frame, in that order (R6). -/
def PortState.take (k : PortState) : Option (PortState × SentFrame) :=
  match k.command, k.queue, k.response, k.status with
  | some f, _, _, _ => some ({ k with command := none, sending := some (.command f) }, .command f)
  | none, bytes :: rest, _, _ => some ({ k with queue := rest, sending := some (.forwarded bytes) }, .forwarded bytes)
  | none, [], some f, _ => some ({ k with response := none, sending := some (.response f) }, .response f)
  | none, [], none, some f => some ({ k with status := none, sending := some (.status f) }, .status f)
  | none, [], none, none => none

/-- The egress arbiter of a port (R6): when a Command frame begins its transmission a hand-over is judged (R162). -/
def egress (k : Port) (p : Part) : Res :=
  if (p.port k).up && (p.port k).sending.isNone then
    match (p.port k).take with
    | some (q, .command _) => (p.setPort k q, [.handOver])
    | some (q, _) => (p.setPort k q, [])
    | none => (p, [])
  else (p, [])

/-- Both egress arbiters, port 1 first. -/
def bothEgress : List Task := [.egress .one, .egress .two]

/-- A frame is offered to the forward queue of port `k` (R4, R5). -/
def offerForward (k : Port) (bytes : List Byte) (p : Part) : Res :=
  let q := p.port k
  if !q.up then (p.tally k (countDiscard 1), [])
  else if queueDepth ≤ q.queue.length then (p.tally k countOverflow, [])
  else (p.setPort k { q with queue := q.queue ++ [bytes] }, [.egress k])

/-- The part makes a frame: its sequence number is the transmit sequence, which goes up by 1 (R7, log 6). -/
def Part.nextSeq (p : Part) : Part := { p with link := { p.link with txSeq := p.link.txSeq + 1 } }

/-- The header of a frame the part makes now: the part's own station number, the transmit sequence and station time
(R7, R8). -/
def Part.ownHeader (p : Part) (dest : Destination) : OwnHeader := ⟨dest, p.link.straps, p.link.txSeq, p.now⟩

/-- A Response frame is placed in the Response slot of a port that is UP (R7). -/
def placeResponse (f : ResponseFrame) (k : Port) (p : Part) : Part :=
  let q := p.port k
  if !q.up then p
  else if q.response.isSome then
    p.setPort k { q with response := some f, tallies := countResponseDrop q.tallies }
  else p.setPort k { q with response := some f }

/-- A Status frame is placed in the Status slot of a port that is UP (R7). -/
def placeStatus (f : StatusFrame) (k : Port) (p : Part) : Part :=
  if (p.port k).up then p.setPort k { p.port k with status := some f } else p

/-- A Command frame is placed in the Command slot of a port that is UP (R7). -/
def placeCommand (f : CommandFrame) (k : Port) (p : Part) : Part :=
  if (p.port k).up then p.setPort k { p.port k with command := some f } else p

/-- Egress can accept a Command frame when the Command slot of every UP port is empty (R7). -/
def Part.slotsFree (p : Part) : Bool :=
  ((!(p.port .one).up || (p.port .one).command.isNone) && (!(p.port .two).up || (p.port .two).command.isNone))

/-- Egress accepts a Command frame: with both ports DOWN it is discarded and each port's tally counts it (R7). -/
def acceptCommand (f : CommandFrame) (p : Part) : Part :=
  if (p.port .one).up || (p.port .two).up then placeCommand f .two (placeCommand f .one p)
  else (p.tally .one (countDiscard 1)).tally .two (countDiscard 1)

/-- Where the Response to a MANAGER station's request is sent: to that station, or to the line multicast address when
the link settings say LINE (R8). -/
def Part.responseDest (p : Part) (m : Sender) : Destination :=
  if p.link.addressing = .unicast then .station m.station else .line

/-- The Response frame that answers a request is made and placed (R7, R8, R185): a refusal counts in its tally. -/
def respond (m : Sender) (answer : Answer) (rows : List RowData) (p : Part) : Res :=
  let p :=
    match answer with
    | .refused _ => p.setManagement { p.management with refused := tick16 p.management.refused }
    | _ => p
  let f : ResponseFrame := ⟨p.ownHeader (p.responseDest m), m.tag, answer, rows⟩
  (placeResponse f .two (placeResponse f .one p.nextSeq), bothEgress)

/-! ### The bytes of the part's own frames (R9) -/

/-- The Ethernet address of a destination (R1, R8). -/
def Destination.address : Destination → List Byte
  | .station nn => stationAddress nn
  | .line => lineMulticast
  | .broadcast => Sys2Proof.broadcast

/-- The header of a frame the part sends, bytes 0–23, with its kind code (R9). -/
def OwnHeader.bytes (h : OwnHeader) (kind : Byte) : List Byte :=
  h.dest.address ++ stationAddress h.station ++ beBytes 2 nodestaType ++ [kind, h.station] ++
    beBytes 2 h.seq.toNat ++ beBytes 6 h.stamp

/-- The target kind and target of a COMMAND body, bytes 25–26 (R9). -/
def Target.bytes : Target → List Byte
  | .breaker b => [1, BitVec.ofNat 8 b.number]
  | .source s => [2, BitVec.ofNat 8 (s.val + 1)]

/-- The action code of a COMMAND body, byte 27 (R9). -/
def actionByte : Action → Byte
  | .opn => 1
  | .close => 2
  | .run => 3
  | .stop => 4

/-- A COMMAND frame, bytes 0–33 (R9). -/
def CommandFrame.bytes (f : CommandFrame) : List Byte :=
  f.head.bytes 6 ++ [f.num] ++ f.target.bytes ++ [actionByte f.action] ++ beBytes 6 f.executeAt

/-- The bytes of a frame being sent, as far as R9 gives them: a COMMAND frame and a forwarded frame whole, and the header
of a RESPONSE or STATUS frame, whose bodies R9 gives by their fields only. -/
def SentFrame.givenBytes : SentFrame → List Byte
  | .command f => f.bytes
  | .forwarded bytes => bytes
  | .response f => f.head.bytes 8
  | .status f => f.head.bytes 9

/-! ### Ports going UP and DOWN, and the end of a transmission (R5, R6) -/

/-- How many frames a port holds in its queue and its slots. -/
def PortState.waiting (k : PortState) : Nat :=
  k.queue.length + k.command.toList.length + k.response.toList.length + k.status.toList.length

/-- A port comes UP with an empty queue and empty slots, and a hand-over is judged (R5, R162). -/
def portUp (k : Port) (p : Part) : Res :=
  let q := p.port k
  if q.up then (p, [])
  else
    (p.setPort k { PortState.init with up := true, tallies := q.tallies }, [.handOver])

/-- A port goes DOWN: what waits is discarded and counted, and the frame being sent is lost (R5, R162). -/
def portDown (k : Port) (p : Part) : Res :=
  let q := p.port k
  if q.up then
    (p.setPort k { PortState.init with tallies := countDiscard q.waiting q.tallies }, [.handOver])
  else (p, [])

/-- The frame being sent on a port ends, and the arbiter takes the next (R6). -/
def transmitEnd (k : Port) (p : Part) : Res :=
  let q := p.port k
  if q.sending.isSome then (p.setPort k { q with sending := none }, [.egress k]) else (p, [])

/-! ### Receiving (R2, R3) -/

/-- What becomes of a received frame (R2). -/
inductive Receipt where
  | checkFailed
  | foreign
  | short
  | loop
  | taken
  | both
  | passed
  deriving DecidableEq, Repr

/-- The first test of R2 that applies. An unnumbered part takes no frame in and has no number of its own (R1). -/
def receiptOf (p : Part) (checkOk : Bool) (bytes : List Byte) : Receipt :=
  let own := p.link.straps
  if !checkOk then .checkFailed
  else if fieldAt bytes 12 2 != some nodestaType then .foreign
  else if bytes.length < headerLength then .short
  else if p.numbered && fieldAt bytes 15 1 == some own.toNat then .loop
  else if p.numbered && bytes.take 6 == stationAddress own then .taken
  else if bytes.take 6 == lineMulticast || bytes.take 6 == broadcast then
    if p.numbered then .both else .passed
  else .passed

/-- A frame taken in goes through the layout check (R3): one that fails is counted, one that passes goes on to R11. -/
def takeIn (k : Port) (bytes : List Byte) (p : Part) : Res :=
  match frameOf bytes with
  | some (h, body) => (p, [.checked k h body])
  | none => (p.tally k countFormat, [])

/-- A frame received whole on a port, which is one that is UP (R2, R5). -/
def receive (k : Port) (checkOk : Bool) (bytes : List Byte) (p : Part) : Res :=
  if !(p.port k).up then (p, [])
  else
    match receiptOf p checkOk bytes with
    | .checkFailed => (p.tally k countCheck, [])
    | .foreign => offerForward (otherPort k) bytes p
    | .short => offerForward (otherPort k) bytes (p.tally k countFormat)
    | .loop => (p.tally k countLoop, [])
    | .taken => takeIn k bytes p
    | .both =>
      let (p, forwarding) := offerForward (otherPort k) bytes p
      let (p, taking) := takeIn k bytes p
      (p, forwarding ++ taking)
    | .passed => offerForward (otherPort k) bytes p

/-! ### Unit supervision (R13–R17) -/

/-- Whether a role is a MANAGER role, which is not judged LOST (R14, R15). -/
def isManager : Role → Bool
  | .manager _ => true
  | _ => false

/-- The silence timer of a row starts, or starts again, with the limit in force; a MANAGER has none (R13, R14). -/
def silenceTimer (row : UnitMapRow) : Timer := if isManager row.role then .stopped else .start (ms row.silence)

/-- Whether a unit's miss count is at or above its loss threshold, for a role that is judged (R14, R15). -/
def missedOut (row : UnitMapRow) (u : UnitRecord) : Bool := !isManager row.role && row.loss ≤ u.miss

/-- What a frame did to its unit: passed on, not passed on, or the unit became LOST by it. -/
inductive Supervised where
  | passed
  | discarded
  | lost
  deriving DecidableEq, Repr

/-- A frame in sequence of an ACTIVE unit: 32 good frames in a row take 1 off the miss count (R14). -/
def UnitRecord.good (u : UnitRecord) : UnitRecord :=
  if u.goodRun + 1 ≥ 32 then { u with expected := u.expected + 1, goodRun := 0, miss := u.miss - 1 }
  else { u with expected := u.expected + 1, goodRun := u.goodRun + 1 }

/-- One more frame of a LOST unit's rejoin run: the fourth returns it to ACTIVE (R16). -/
def UnitRecord.rejoinAt (u : UnitRecord) (run : Nat) : UnitRecord × Supervised :=
  if 4 ≤ run then ({ u with state := .active, miss := 0, goodRun := 0, rejoin := 0 }, .passed)
  else ({ u with rejoin := run }, .discarded)

/-- A frame of a unit is supervised by its sequence (R13, R14, R16). -/
def superviseUnit (row : UnitMapRow) (u : UnitRecord) (seq : SeqNum) (now : Nat) : UnitRecord × Supervised :=
  let d := (seq - u.expected).toNat
  let u := { u with last := some now, silence := silenceTimer row }
  match u.state with
  | .absent => ({ u with state := .active, expected := seq + 1 }, .passed)
  | .active =>
    if d = 0 then (u.good, .passed)
    else if d ≤ 32767 then
      let u := { u with miss := satAdd 15 d u.miss, goodRun := 0, expected := seq + 1 }
      if missedOut row u then ({ u with state := .lost, rejoin := 0 }, .lost) else (u, .passed)
    else ({ u with stale := tick16 u.stale }, .discarded)
  | .lost =>
    if d = 0 then { u with expected := u.expected + 1 }.rejoinAt (u.rejoin + 1)
    else if d ≤ 32767 then { u with expected := seq + 1 }.rejoinAt 1
    else ({ u with stale := tick16 u.stale }, .discarded)

/-- A unit has become LOST: the owner of its role is told, then UNIT_LOST is set and the fault recorded (R15). -/
def lostTasks (role : Role) : List Task := [.unitGone role, .unitLost role]

/-- A frame of a row's unit is supervised; the second part says whether it is passed on (R13–R16). -/
def supervise (r : Fin 32) (seq : SeqNum) (p : Part) : Part × Bool × List Task :=
  let (u, what) := superviseUnit (p.row r) (p.unit r) seq p.now
  (p.setUnit r u, what == .passed, if what = .lost then lostTasks (p.row r).role else [])

/-- UNIT_LOST is set and its fault names what the role serves (R15). -/
def unitLost (role : Role) (p : Part) : Res :=
  let f := blankFault .unitLost
  let f :=
    match role with
    | .breaker b => { f with breaker := some b }
    | .genctl s => { f with source := some s }
    | .point (.line s) => { f with source := some s }
    | .point (.bus x) => { f with bus := some (oneBus x) }
    | _ => f
  ((p.raiseFlag .unitLost).recordFault f, [])

/-- A unit's silence timer expires: an ACTIVE unit becomes LOST, and a LOST one is not affected (R15, R16). -/
def silenceExpiry (r : Fin 32) (p : Part) : Res :=
  let u := p.unit r
  if u.silence.due then
    if u.state = .active then
      (p.setUnit r { u with state := .lost, rejoin := 0, silence := .stopped }, lostTasks (p.row r).role)
    else (p.setUnit r { u with silence := .stopped }, [])
  else (p, [])

/-- Whether an owner is told of an unbinding: only of a unit that was ACTIVE or LOST (R17). -/
def goneTasks (u : UnitRecord) (role : Role) : List Task := if u.state = .absent then [] else [.unitGone role]

/-! ### The unit map (R11, R12) -/

/-- Where a body goes once its unit is supervised: the owner of its kind, if the role sends that kind (R11). -/
def ownerTask (station : BitVec 8) (role : Role) : Body → Option Task
  | .reading b =>
    match role with
    | .point pt => some (.reading pt b)
    | _ => none
  | .state b =>
    match role with
    | .breaker br => some (.stateReport br b)
    | _ => none
  | .genstat b =>
    match role with
    | .genctl s => some (.genstat s b)
    | _ => none
  | .time t =>
    match role with
    | .timeMaster => some (.timeFrame t.toNat)
    | _ => none
  | .announce _ _ => none
  | .request tag name arguments =>
    some (if isManager role then .request ⟨station, tag⟩ (requestOf name arguments) else .foreign)

/-- A frame that passed the layout check is matched to the unit map and supervised (R11). -/
def mapFrame (k : Port) (h : Header) (body : Body) (p : Part) : Res :=
  match body with
  | .announce role index => (p, [.announce k ⟨h.station, h.seq, role, index⟩])
  | _ =>
    match p.rowOfStation h.station.toNat with
    | none => (p.tally k countUnmapped, [])
    | some r =>
      let role := (p.row r).role
      let (p, passed, told) := supervise r h.seq p
      match ownerTask h.station role body with
      | some t => (p, told ++ if passed then [t] else [])
      | none => (p.tally k countFormat, told)

/-- A row binds to a station, with a fresh unit record (R12, R13). -/
def Part.bind (p : Part) (r : Fin 32) (station : Fin 255) : Part :=
  (p.setRow r { p.row r with station := station }).setUnit r UnitRecord.init

/-- The claim of an ANNOUNCE from station `n` on the row `r` that holds the claimed role and index (R12). A frozen row
is not bound by it: a claim that would bind one is ignored (log 10). -/
def claimRow (k : Port) (r : Fin 32) (n : Fin 255) (p : Part) : Res :=
  let row := p.row r
  if row.station = n then (p, [])
  else if row.station.val ≠ 0 then (p.raiseFlag .duplicateRole, [])
  else if !row.learn then (p.tally k countUnmapped, [])
  else
    match p.rowOfStation n.val with
    | none => (if row.freeze then p else p.bind r n, [])
    | some r2 =>
      if (p.row r2).freeze || p.arbiter.mode == .auto then (p.raiseFlag .duplicateRole, [])
      else if row.freeze then (p, [])
      else ((p.bind r2 0).bind r n, goneTasks (p.unit r2) (p.row r2).role)

/-- An ANNOUNCE: the claim is judged, and the frame is supervised as a frame of the row that then binds its sender
(R12). A station number that no station has is not bound (log 8). -/
def announce (k : Port) (f : AnnounceFrame) (p : Part) : Res :=
  let n := f.station.toNat
  if h : 1 ≤ n ∧ n < 255 then
    let (p, told) :=
      match (claimedRole f.role f.index.toNat).bind p.rowOfRole with
      | none => (p.tally k countUnmapped, [])
      | some r => claimRow k r ⟨n, h.2⟩ p
    match p.rowOfStation n with
    | none => (p, told)
    | some r =>
      let (p, _, lost) := supervise r f.seq p
      (p, told ++ lost)
  else (p.tally k countUnmapped, [])

end Sys2Proof.Machine
end

