-- ==== Sys2Proof/Machine/Schedule.lean ====
section
/-! DEFINITION. The Command Scheduler: schedule order and numbers (R155, R157), placing entries (R158, R159), retime and
cancel (R160), becoming due and hand-overs (R161–R163), deadlines, confirmations and refusals (R164–R167). -/

namespace Sys2Proof.Machine

/-- The room of the schedule (R155). -/
def scheduleRoom : Nat := 16

/-! ### Entries and their order (R155) -/

/-- Whether an entry's origin is GUARD. -/
def Entry.isGuard (e : Entry) : Bool :=
  match e.owner with
  | .guard _ => true
  | _ => false

/-- Where an entry stands in schedule order: GUARD entries, then execute-at 0, then ascending execute-at (R155). -/
def Entry.rank (e : Entry) : Nat := if e.isGuard then 0 else if e.executeAt = 0 then 1 else e.executeAt + 1

/-- An entry placed behind every entry that stands before it or equal to it (R155). -/
def placeEntry (e : Entry) : List Entry → List Entry
  | [] => [e]
  | h :: t => if h.rank ≤ e.rank then h :: placeEntry e t else e :: h :: t

/-- The entry with a command number, if the schedule holds one. -/
def Part.entry (p : Part) (num : CmdNum) : Option Entry := p.schedule.entries.find? (fun e => e.num == num)

/-- Replaces the entries. -/
def Part.setEntries (p : Part) (es : List Entry) : Part := p.setSchedule { p.schedule with entries := es }

/-- An entry in the place of the one with its number. -/
def Part.putEntry (p : Part) (e : Entry) : Part :=
  p.setEntries (p.schedule.entries.map (fun e' => if e'.num = e.num then e else e'))

/-- The entry with a number leaves the schedule (R168). -/
def Part.dropEntry (p : Part) (num : CmdNum) : Part :=
  p.setEntries (p.schedule.entries.filter (fun e => e.num != num))

/-- The schedule's tallies after a change (R156). -/
def Part.countSchedule (p : Part) (f : ScheduleTallies → ScheduleTallies) : Part :=
  p.setSchedule { p.schedule with tallies := f p.schedule.tallies }

/-! ### Command numbers (R157) -/

/-- Whether a command number may be given: no entry holds it, and it is not in the target breaker's latest echo. -/
def Part.numberFree (p : Part) (target : Target) (n : CmdNum) : Bool :=
  (p.entry n).isNone &&
    match target with
    | .breaker b => (p.breaker b).echo.map (·.1) != some n
    | .source _ => true

/-- The first number from `n` on that may be given, looking at most so many further. -/
def Part.numberFrom (p : Part) (target : Target) : Nat → CmdNum → CmdNum
  | 0, n => n
  | k + 1, n => if p.numberFree target n then n else p.numberFrom target k (n + 1)

/-- The number an insertion is given (R157). -/
def Part.nextNumber (p : Part) (target : Target) : CmdNum := p.numberFrom target 256 p.schedule.next

/-! ### Becoming due (R161) -/

/-- Whether a QUEUED entry is due: now is at or after its execute-at less the send lead (R161). -/
def Part.isDue (p : Part) (e : Entry) : Bool := e.executeAt ≤ p.now + p.schedule.settings.sendLead

/-- An entry with its due since as it now is (R161). -/
def Part.withDue (p : Part) (e : Entry) : Entry :=
  if e.sent then e
  else if p.isDue e then { e with dueSince := some (e.dueSince.getD p.now) }
  else { e with dueSince := none }

/-- Which entries are due is judged again (R161). -/
def Part.refreshDue (p : Part) : Part := p.setEntries (p.schedule.entries.map p.withDue)

/-! ### Placing entries (R158, R159) -/

/-- The execute-at of a request, or why it is refused (R158, 2 and 3). -/
def Part.executeAtFor (p : Part) (timed : Option Nat) : Except Reason Nat :=
  match timed with
  | none => .ok (if p.timeGood then p.now + p.schedule.settings.sendLead else 0)
  | some t =>
    if p.timeGood && within (p.now + p.schedule.settings.minLead) (p.now + p.schedule.settings.horizon) t then .ok t
    else .error .window

/-- An accepted entry takes its place with its number (R157, R158). -/
def Part.accept (p : Part) (target : Target) (action : Action) (owner : Owner) (executeAt : Nat) : Part × CmdNum :=
  let num := p.nextNumber target
  let e : Entry :=
    { num := num
      target := target
      action := action
      executeAt := executeAt
      owner := owner
      sent := false
      insertedAt := p.now
      horizon := p.schedule.settings.horizon
      dueSince := none
      sendStamp := none
      late := false
      deadline := .stopped }
  let t := p.schedule.tallies
  (p.setSchedule
    { p.schedule with
      entries := placeEntry (p.withDue e) p.schedule.entries
      next := num + 1
      tallies := { t with inserted := tick16 t.inserted } }, num)

/-- An insertion of any origin but GUARD: the part with the entry and its number, or the refusal (R158). -/
def Part.insertEntry (p : Part) (target : Target) (action : Action) (owner : Owner) (timed : Option Nat) :
    Except Reason (Part × CmdNum) :=
  match p.executeAtFor timed with
  | .error r => .error r
  | .ok t => if scheduleRoom ≤ p.schedule.entries.length then .error .full else .ok (p.accept target action owner t)

/-- The entry that a GUARD insertion evicts from a full schedule (R159). -/
def evictee (es : List Entry) : Option Entry :=
  let queued := es.filter (fun e => !e.isGuard && !e.sent)
  let sent := es.filter (fun e => !e.isGuard && e.sent)
  let guards := es.filter (fun e => e.isGuard && e.sent)
  queued.getLast? <|> sent.getLast? <|> guards.head? <|> es.getLast?

/-- A GUARD insertion: the part, the trip's number, and the report of the entry evicted for it (R159). -/
def Part.insertGuard (p : Part) (b : Breaker) (serial : Nat) : Part × CmdNum × List Task :=
  let (p, told) :=
    match if scheduleRoom ≤ p.schedule.entries.length then evictee p.schedule.entries else none with
    | some e =>
      ((p.dropEntry e.num).countSchedule (fun t => { t with evicted := tick16 t.evicted }),
        [Task.reportEntry e .cancelled])
    | none => (p, [])
  let (p, num) := p.accept (.breaker b) .opn (.guard serial) 0
  (p, num, told)

/-! ### Retime and cancel (R160) -/

/-- A QUEUED entry moved to a new execute-at, if the window admits it (R160). -/
def Part.retimeEntry (p : Part) (num : CmdNum) (t : Nat) : Option Part :=
  match p.entry num, p.executeAtFor (some t) with
  | some e, .ok t =>
    if e.sent then none
    else
      let e := { e with executeAt := t, insertedAt := p.now, horizon := p.schedule.settings.horizon }
      let rest := p.schedule.entries.filter (fun e' => e'.num != num)
      some (p.setEntries (placeEntry (p.withDue e) rest))
  | _, _ => none

/-- Whether the schedule holds a QUEUED entry with a number. -/
def Part.isQueued (p : Part) (num : CmdNum) : Bool :=
  match p.entry num with
  | some e => !e.sent
  | none => false

/-- A QUEUED entry leaves the schedule at its owner's request; a SENT entry stays (R160). -/
def Part.cancelEntry (p : Part) (num : CmdNum) : Part := if p.isQueued num then p.dropEntry num else p

/-! ### Hand-overs (R162, R163) -/

/-- A fault record that names an entry's target and its owner's channel, template and step (R162, R167). -/
def entryFault (kind : FaultKind) (e : Entry) : FaultRecord :=
  let f := blankFault kind
  let f :=
    match e.target with
    | .breaker b => { f with breaker := some b }
    | .source s => { f with source := some s }
  match e.owner with
  | .step _ c t n _ | .attempt c t n => { f with channel := some c, template := some t, step := some n }
  | .guard _ | .management => f

/-- The duration of an entry's operate deadline (R164). -/
def Part.deadlineFor (p : Part) (e : Entry) : Nat :=
  match e.target with
  | .breaker b =>
    let k := p.brkSet b
    (if e.action = .close then k.tc else k.topen) + ms k.margin + (e.executeAt - p.now)
  | .source s => seconds (p.srcSet s).startLimit

/-- The attempt whose entry has been sent is CONFIRMING, and its time-limit timer stops (R151, R152). -/
def attemptSent (num : CmdNum) (p : Part) : Part :=
  match p.attempt with
  | some a =>
    if a.state = .armed ∧ a.entry.map (·.1) = some num then
      { p with attempt := some { a with state := .confirming }, syncTimer := .stopped }
    else p
  | none => p

/-- The Monitor counts an operation of a breaker whose entry is SENT, and judges its service limit (R63). -/
def countOperation (target : Target) (p : Part) : Part :=
  match target with
  | .breaker b =>
    (p.setBreaker b { p.breaker b with opCount := tick16 (p.breaker b).opCount }).judgeService b
  | .source _ => p

/-- An entry's frame is made and handed to egress, and the entry is SENT (R162, step 3; R164). -/
def sendEntry (e : Entry) (p : Part) : Res :=
  let f : CommandFrame := ⟨p.ownHeader .line, e.num, e.target, e.action, e.executeAt⟩
  let late := e.dueSince.getD p.now + p.schedule.settings.lateTol < p.now
  let e' :=
    { e with
      sent := true
      sendStamp := some p.now
      late := late
      deadline := .start (p.deadlineFor e) }
  let p := acceptCommand f p.nextSeq
  let p := (p.putEntry e').countSchedule (fun t =>
    { t with sent := tick16 t.sent, late := if late then tick16 t.late else t.late })
  let p := if late then p.raiseFlag .scheduleLate else p
  let p := attemptSent e.num (countOperation e.target p)
  (p, bothEgress ++ [.handOver])

/-- The entry at the head of the send line is judged: MISSED, BLOCKED or SENT (R162). -/
def judgeHead (e : Entry) (p : Part) : Res :=
  if e.executeAt ≠ 0 ∧ e.executeAt < p.now + p.schedule.settings.minLead then
    let p := ((p.dropEntry e.num).raiseFlag .scheduleMissed).recordFault (entryFault .commandMissed e)
    (p.countSchedule (fun t => { t with missed := tick16 t.missed }), [.reportEntry e .missed, .handOver])
  else
    match e.target with
    | .source _ => sendEntry e p
    | .breaker b =>
      match p.blockCause b e.action e.owner with
      | some cause =>
        let p := countInterlock b (p.dropEntry e.num)
        (p.countSchedule (fun t => { t with blocked := tick16 t.blocked }), [.reportEntry e (.blocked cause), .handOver])
      | none => sendEntry e p

/-- The Command frames that wait in slots, as copies taken back (R163). -/
def Part.waitingCopies (p : Part) : List HeldCopy :=
  match (p.port .one).command, (p.port .two).command with
  | none, none => []
  | some f, none => [⟨f, true, false⟩]
  | none, some f => [⟨f, false, true⟩]
  | some f, some g => if f = g then [⟨f, true, true⟩] else [⟨f, true, false⟩, ⟨g, false, true⟩]

/-- The Command frames that wait in slots are taken back, and the Scheduler keeps the copies (R163). DESIGN CHOICE (log 48):
the spec gives copies taken back at different times no order; the newest are offered first. -/
def takeBack (p : Part) : Part :=
  let copies := p.waitingCopies
  let p := p.setSchedule { p.schedule with held := copies ++ p.schedule.held }
  let clear (k : Port) (p : Part) : Part := p.setPort k { p.port k with command := none }
  clear .two (clear .one p)

/-- A held copy is offered to one of the ports it was taken from; a port that is DOWN discards it (R5, R163). -/
def offerCopy (f : CommandFrame) (k : Port) (p : Part) : Part :=
  if (p.port k).up then placeCommand f k p else p.tally k (countDiscard 1)

/-- A held copy is offered to the ports it was taken from (R163). -/
def offerHeld (c : HeldCopy) (p : Part) : Part :=
  let p := if c.one then offerCopy c.frame .one p else p
  if c.two then offerCopy c.frame .two p else p

/-- The send line: the due QUEUED entries in schedule order (R161). -/
def Part.sendLine (p : Part) : List Entry := p.schedule.entries.filter (fun e => !e.sent && e.dueSince.isSome)

/-- A hand-over is judged (R162, R163). A GUARD entry stands at the head and does not wait for the slots; copies taken
back go ahead of every other entry. -/
def handOver (p : Part) : Res :=
  let p := p.refreshDue
  let line := p.sendLine
  match line.find? (·.isGuard) with
  | some e => judgeHead e (takeBack p)
  | none =>
    if !p.slotsFree then (p, [])
    else
      match p.schedule.held, line with
      | c :: rest, _ => (offerHeld c (p.setSchedule { p.schedule with held := rest }), bothEgress ++ [.handOver])
      | [], e :: _ => judgeHead e p
      | [], [] => (p, [])

/-- Now reaches an entry's execute-at less the send lead: the entry joins the send line (R161, R162). -/
def entryDue (num : CmdNum) (p : Part) : Res :=
  match p.entry num with
  | some e => if !e.sent && e.dueSince.isNone && p.isDue e then (p.refreshDue, [.handOver]) else (p, [])
  | none => (p, [])

/-! ### Confirmations, refusals and deadlines (R165–R168) -/

/-- An entry is resolved: it leaves the schedule and its owner is told (R168). -/
def resolve (e : Entry) (outcome : EntryOutcome) (p : Part) : Res :=
  (p.dropEntry e.num, [.reportEntry e outcome])

/-- An entry is REFUSED, which the refused tally counts (R165, R166). -/
def refuse (e : Entry) (reason : Reason) (p : Part) : Res :=
  resolve e (.refused reason) (p.countSchedule (fun t => { t with refused := tick16 t.refused }))

/-- The SENT entries of a target, by their numbers, in schedule order. -/
def Part.sentTo (p : Part) (target : Target) : List CmdNum :=
  (p.schedule.entries.filter (fun e => e.sent && e.target == target)).map (·.num)

/-- A breaker report reaches the Scheduler: each SENT entry of that breaker is judged (R165). -/
def breakerEntries (b : Breaker) (p : Part) : Res := (p, (p.sentTo (.breaker b)).map .judgeBreakerEntry)

/-- The reason of a refusal echo (R165). -/
def refusalOf : EchoResult → Option Reason
  | .refusedLocal => some .refusedLocal
  | .refusedNotReady => some .refusedNotReady
  | .refusedLate => some .refusedLate
  | .noCommand | .executed => none

/-- The refusal that a breaker's latest echo gives an entry (R165). -/
def echoRefusal (e : Entry) (echo : Option (CmdNum × EchoResult)) : Option Reason :=
  match echo with
  | some (n, result) => if n = e.num then refusalOf result else none
  | none => none

/-- A SENT entry of a breaker is judged against its record (R165). -/
def judgeBreakerEntry (num : CmdNum) (p : Part) : Res :=
  match p.entry num with
  | none => (p, [])
  | some e =>
    match e.target with
    | .source _ => (p, [])
    | .breaker b =>
      if !e.sent then (p, [])
      else if askedPosition e.action = some (p.breaker b).position then resolve e .confirmed p
      else
        match echoRefusal e (p.breaker b).echo with
        | some reason => refuse e reason p
        | none => (p, [])

/-- A generator record replaced by a GENSTAT reaches the Scheduler (R166). -/
def sourceEntries (s : Src) (p : Part) : Res := (p, (p.sentTo (.source s)).map .judgeSourceEntry)

/-- A SENT entry of a source is judged against its generator record (R166). -/
def judgeSourceEntry (num : CmdNum) (p : Part) : Res :=
  match p.entry num with
  | none => (p, [])
  | some e =>
    match e.target with
    | .breaker _ => (p, [])
    | .source s =>
      let g := (p.source s).gen
      if !e.sent then (p, [])
      else if e.action = .run then
        if g.running then resolve e .confirmed p
        else if g.startFailed then refuse e .genStartFailed p
        else (p, [])
      else if !g.running then resolve e .confirmed p
      else (p, [])

/-- The role of the unit that a target has (R167). -/
def targetRole : Target → Role
  | .breaker b => .breaker b
  | .source s => .genctl s

/-- An entry's operate deadline expires: UNCONFIRMED where its unit is not ACTIVE, else TIMED_OUT, by which a breaker
becomes FAILED (R64, R167). -/
def deadlineExpiry (num : CmdNum) (p : Part) : Res :=
  match p.entry num with
  | none => (p, [])
  | some e =>
    if e.sent && e.deadline.due then
      if p.roleActive (targetRole e.target) then
        let p := (p.dropEntry num).countSchedule (fun t => { t with timedOut := tick16 t.timedOut })
        match e.target with
        | .source _ => (p, [.reportEntry e .timedOut])
        | .breaker b =>
          let f := { entryFault .breakerTimeout e with position := some (p.breaker b).position }
          let told := if (p.breaker b).failed then [] else [Task.load]
          (breakerFails b p, told ++ [.recordFault f, .reportEntry e .timedOut])
      else resolve e .unconfirmed (p.countSchedule (fun t => { t with unconfirmed := tick16 t.unconfirmed }))
    else (p, [])

end Sys2Proof.Machine
end

