-- ==== Sys2Proof/Machine/Sync.lean ====
section
/-! DEFINITION. The Synchronising Unit: the evaluation and its stages (R141–R148), arming, retiming and cancelling (R149,
R150), entry reports (R151), the time limit, time quality and abandonment (R152–R154). -/

namespace Sys2Proof.Machine

/-! ### The arithmetic of an evaluation (R143–R147) -/

/-- A quotient rounded to the nearest whole number, halves away from zero (R143). -/
def roundedQuotient (n : Int) (d : Nat) : Int :=
  let q : Int := (((2 * n.natAbs + d) / (2 * d) : Nat) : Int)
  if n < 0 then -q else q

/-- The advance of an angle over a span of station time, in tenths of a degree (R143). -/
def angleAdvance (freq span : Nat) : Int :=
  roundedQuotient (((freq : Int) - 50000) * (span : Int) * 3600) 1000000000

/-- A reading's angle aligned to the instant `t0`, in 0–3599 (R143). -/
def alignedAngle (r : Reading) (t0 : Nat) : Nat :=
  (((r.angle : Int) + angleAdvance r.freq (t0 - r.stamp)) % 3600).toNat

/-- The angle difference in 0–3599 (R145). -/
def angleDifference (reference incoming : Nat) : Nat := (((incoming : Int) - (reference : Int)) % 3600).toNat

/-- The signed form of an angle difference, in −1800 to +1799 (R145). -/
def signedAngle (delta : Nat) : Int := if delta ≤ 1799 then (delta : Int) else (delta : Int) - 3600

/-- The first of `tc`, `tc` + P, `tc` + 2P, … that is not earlier than an instant (R147, step 5). -/
def nextCycle (tc period earliest : Int) : Int :=
  if earliest ≤ tc then tc else tc + period * ((earliest - tc + period - 1) / period)

/-- An evaluation that has formed no figures yet (R148). -/
def Evaluation.blank (now : Nat) (cause : NotReadyCause) : Evaluation :=
  ⟨.notReady cause, now, none, none, none, none, none, none, none, none, none, none⟩

/-- The eighth stage: a candidate is judged against the arming horizon (R148). -/
def Evaluation.judged (e : Evaluation) (k : SyncSettings) (tc : Int) : Evaluation :=
  { e with
    tc := some tc
    result := if tc ≤ ((e.now + ms k.horizon : Nat) : Int) then .ready tc.toNat else .notYet }

/-- What an evaluation reads besides the two readings (R141): now, the closing time and the minimum lead. -/
structure EvalInputs where
  now     : Nat
  tc      : Nat
  minLead : Nat
  deriving DecidableEq, Repr

/-- The sixth stage: a standing angle (R146). -/
def Evaluation.standingCase (e : Evaluation) (k : SyncSettings) (i : EvalInputs) (signed : Int) : Evaluation :=
  let e := { e with standing := some true }
  if signed.natAbs ≤ k.angleMax then e.judged k ((i.now + i.minLead : Nat) : Int)
  else { e with result := .notReady .angle }

/-- The seventh stage: a slipping angle (R147). -/
def Evaluation.slippingCase (e : Evaluation) (k : SyncSettings) (i : EvalInputs) (t0 delta : Nat) (slip : Int) :
    Evaluation :=
  let travel := if 0 < slip then (3600 - delta) % 3600 else delta
  let wait := travel * 1000000000 / (slip.natAbs * 3600)
  let period := 1000000000 / slip.natAbs
  let tc := nextCycle (((t0 + wait : Nat) : Int) - (i.tc : Int)) period ((i.now + i.minLead : Nat) : Int)
  { e with
    standing := some false
    travel := some travel
    wait := some wait
    period := some period }.judged k tc

/-- The stages after freshness, on the readings of the reference point and of the incoming point (R143–R148). -/
def evaluatePair (k : SyncSettings) (i : EvalInputs) (r q : Reading) : Evaluation :=
  let t0 := max r.stamp q.stamp
  let angles := (alignedAngle r t0, alignedAngle q t0)
  let dV := ((q.magA : Int) - (r.magA : Int)).natAbs
  let e := { Evaluation.blank i.now .voltage with t0 := some t0, angles := some angles, dV := some dV }
  if k.dVmax < dV then e
  else
    let slip : Int := (q.freq : Int) - (r.freq : Int)
    let e := { e with slip := some slip }
    if k.slipMax < slip.natAbs then { e with result := .notReady .slip }
    else if k.direction = .incomingFaster ∧ slip ≤ 0 then { e with result := .notReady .direction }
    else
      let delta := angleDifference angles.1 angles.2
      let e := { e with delta := some (signedAngle delta) }
      if slip.natAbs < k.slipMin then e.standingCase k i (signedAngle delta) else e.slippingCase k i t0 delta slip

/-- Whether two stamps differ by more than the pair skew limit (R142). -/
def skewed (k : SyncSettings) (a b : Nat) : Bool := ms k.skew < ((a : Int) - (b : Int)).natAbs

/-- An evaluation of an attempt whose breaker is not CLOSED (R142–R148). -/
def Part.evaluation (p : Part) (a : AttemptRecord) : Evaluation :=
  let k := p.syncSettings.get a.set
  match p.view a.reference, p.view a.incoming with
  | some r, some q =>
    if r.clamped || q.clamped then .blank p.now .clamped
    else if skewed k r.stamp q.stamp then .blank p.now .skew
    else evaluatePair k ⟨p.now, (p.brkSet a.breaker).tc, p.schedule.settings.minLead⟩ r q
  | _, _ => .blank p.now .point

/-! ### The attempt (R139, R140) -/

/-- Replaces the attempt record. -/
def Part.setAttempt (p : Part) (a : AttemptRecord) : Part := { p with attempt := some a }

/-- Whether an attempt is WAITING or ARMED, and so evaluates (R141). -/
def AttemptRecord.open (a : AttemptRecord) : Bool := a.state == .waiting || a.state == .armed

/-- An attempt ends, and its timer stops (R151). -/
def finishAttempt (a : AttemptRecord) (state : AttemptState) (reason : Option Reason) (p : Part) : Part :=
  { p.setAttempt { a with state := state, reason := reason, ended := some p.now } with syncTimer := .stopped }

/-- An attempt ends, and reports to its step (R151). -/
def endAttempt (a : AttemptRecord) (state : AttemptState) (reason : Option Reason) (p : Part) : Res :=
  (finishAttempt a state reason p, [.attemptDone])

/-- An attempt's QUEUED entry is cancelled; the part and the record without it (R142, R150, R152–R154). -/
def cancelAttemptEntry (a : AttemptRecord) (p : Part) : Part × AttemptRecord :=
  match a.entry with
  | some (num, _) => (p.cancelEntry num, { a with entry := none })
  | none => (p, a)

/-- An attempt in WAITING or ARMED ends otherwise than by its entry: a QUEUED entry is cancelled (R142, R152, R153). -/
def breakOff (a : AttemptRecord) (state : AttemptState) (reason : Option Reason) (p : Part) : Res :=
  let (p, a) := cancelAttemptEntry a p
  endAttempt a state reason p

/-- A WAITING attempt acts on a READY result: it asks for its entry (R149). DESIGN CHOICE (log 43): an entry that is due at
once is SENT within this event (R162) and the attempt is CONFIRMING (R151), so an expiry that falls together with the
reading but is taken after it does not cancel the entry as the last paragraph of R152 has it. -/
def arm (a : AttemptRecord) (tc : Nat) (p : Part) : Res :=
  match p.insertEntry (.breaker a.breaker) .close (.attempt a.channel a.template a.step) (some tc) with
  | .ok (p, num) =>
    (p.setAttempt { a with state := .armed, entry := some (num, tc), arms := tick16 a.arms }, [.handOver])
  | .error reason => endAttempt { a with entry := none } .failed (some reason) p

/-- An ARMED attempt acts on a READY result: its entry is left, retimed, or given up (R150). -/
def retime (a : AttemptRecord) (tc : Nat) (p : Part) : Res :=
  match a.entry with
  | none => (p, [])
  | some (num, t) =>
    if ((tc : Int) - (t : Int)).natAbs ≤ (p.syncSettings.get a.set).retime then (p, [])
    else
      match p.retimeEntry num tc with
      | some p => (p.setAttempt { a with entry := some (num, tc), retimes := tick16 a.retimes }, [.handOver])
      | none => breakOff a .failed (some .window) p

/-- An ARMED attempt acts on a result other than READY: its entry is cancelled, and it waits (R150). -/
def disarm (a : AttemptRecord) (p : Part) : Part :=
  let (p, a) := cancelAttemptEntry a p
  p.setAttempt { a with state := .waiting, cancels := tick16 a.cancels }

/-- An attempt in WAITING or ARMED makes an evaluation and acts on its result (R141, R149, R150). -/
def evaluateAttempt (a : AttemptRecord) (p : Part) : Res :=
  let a := { a with evaluations := tick16 a.evaluations }
  if (p.breaker a.breaker).position = .closed then breakOff a .done none p
  else
    let e := p.evaluation a
    let a := { a with evaluation := some e }
    let p := p.setAttempt a
    match a.state, e.result with
    | .waiting, .ready tc => arm a tc p
    | .armed, .ready tc => retime a tc p
    | .armed, _ => (disarm a p, [])
    | _, _ => (p, [])

/-- A valid reading at a point, or its becoming BLIND, reaches a running attempt that uses the point (R141). -/
def evaluate (pt : Point) (p : Part) : Res :=
  match p.attempt with
  | some a =>
    if a.open && (a.reference == pt || a.incoming == pt) then evaluateAttempt a p else (p, [])
  | none => (p, [])

/-- An attempt starts from a SYNC step, and makes its first evaluation (R140). -/
def startAttempt (b : Breaker) (reference incoming : Point) (set : Fin 4) (channel : Channel)
    (template : TemplateRef) (step : Nat) (p : Part) : Res :=
  let a : AttemptRecord :=
    { state := .waiting
      breaker := b
      reference := reference
      incoming := incoming
      set := set
      channel := channel
      template := template
      step := step
      start := p.now
      ended := none
      entry := none
      reason := none
      evaluation := none
      evaluations := 0
      arms := 0
      retimes := 0
      cancels := 0
      misses := 0 }
  evaluateAttempt a
    { p.setAttempt a with syncTimer := .start (seconds (p.syncSettings.get set).timeLimit) }

/-- The reason that an entry's outcome gives a step or an attempt, for a breaker's entry (R118, R151). -/
def breakerReason : EntryOutcome → Option Reason
  | .confirmed => none
  | .refused r => some r
  | .timedOut => some .breakerTimeout
  | .unconfirmed => some .breakerLost
  | .missed => some .commandMissed
  | .blocked _ => some .interlock
  | .cancelled => some .evicted

/-- The Command Scheduler reports the attempt's entry (R151). DEDUCED (log 23): the entry field of an attempt so ended,
EVICTED included, keeps the entry. -/
def attemptEntry (num : CmdNum) (o : EntryOutcome) (p : Part) : Res :=
  match p.attempt with
  | some a =>
    if (a.open || a.state == .confirming) && a.entry.map (·.1) == some num then
      match o with
      | .missed =>
        (p.setAttempt { a with state := .waiting, entry := none, misses := tick16 a.misses }, [])
      | .confirmed => endAttempt a .done none p
      | _ => endAttempt a .failed (breakerReason o) p
    else (p, [])
  | none => (p, [])

/-- The attempt's time limit expires (R152). -/
def syncLimitExpiry (p : Part) : Res :=
  if p.syncTimer.due then
    let p := { p with syncTimer := .stopped }
    match p.attempt with
    | some a => if a.open then breakOff a .failed (some .syncTimeout) p else (p, [])
    | none => (p, [])
  else (p, [])

/-- Time quality becomes POOR (R153). -/
def timeQualityPoor (p : Part) : Res :=
  match p.attempt with
  | some a => if a.open then breakOff a .failed (some .timeNotLocked) p else (p, [])
  | none => (p, [])

/-- An abort ends an attempt that is WAITING or ARMED, with no report to its step (R132, R154). -/
def abandonAttempt (p : Part) : Part :=
  match p.attempt with
  | some a =>
    if a.open then
      let (p, a) := cancelAttemptEntry a p
      finishAttempt a .failed (some .abandoned) p
    else p
  | none => p

end Sys2Proof.Machine
end

