-- ==== Sys2Proof/Machine/Executor.lean ====
section
/-! DEFINITION. The Plan Executor: steps (R117–R128), how a plan ends (R129–R131), abort (R132, R133), the parallel
guard (R134–R137), and the report of a resolved entry to its owner (R168, R186). -/

namespace Sys2Proof.Machine

/-! ### The current step and its record (R114, R116) -/

/-- The current step. -/
def Part.currentStep (p : Part) : Option Step :=
  match p.exec.plan with
  | some pl => if p.exec.step = 0 then none else pl.steps[p.exec.step - 1]?
  | none => none

/-- Changes the plan record of a hand-over, which is the current or the previous one; one since discarded is gone. -/
def Part.updateRecord (p : Part) (serial : Nat) (f : PlanRecord → PlanRecord) : Part :=
  let change (r : PlanRecord) : PlanRecord := if r.serial = serial then f r else r
  { p with currentPlan := p.currentPlan.map change, previousPlan := p.previousPlan.map change }

/-- Changes a step's entry in a plan record. -/
def PlanRecord.updateStep (r : PlanRecord) (step : Nat) (f : StepRecord → StepRecord) : PlanRecord :=
  { r with steps := r.steps.modify (step - 1) f }

/-- Changes the entry of the current step in the current record. -/
def Part.updateStep (p : Part) (f : StepRecord → StepRecord) : Part :=
  p.updateRecord p.exec.serial (fun r => r.updateStep p.exec.step f)

/-- The entry of the current step in the current record. -/
def Part.stepRecord (p : Part) : Option StepRecord :=
  match p.currentPlan with
  | some r => if r.serial = p.exec.serial ∧ p.exec.step ≠ 0 then r.steps[p.exec.step - 1]? else none
  | none => none

/-- Whether the current step has not ended. -/
def Part.stepOpen (p : Part) : Bool :=
  match p.stepRecord with
  | some r => r.outcome.isNone
  | none => false

/-- Whether a step of a hand-over is the current step of a RUNNING plan, and has not ended. -/
def Part.stepRuns (p : Part) (serial step : Nat) : Bool :=
  p.exec.state == .running && !p.exec.decided && p.exec.serial == serial && p.exec.step == step && p.stepOpen

/-- The current step ends: its outcome and its time are recorded, and its timer is stopped (R116, R117). -/
def endStep (o : StepOutcome) (p : Part) : Part :=
  let p := p.updateStep (fun r => { r with outcome := some o, ended := some p.now })
  p.setExec { p.exec with phase := none, timer := .stopped }

/-- The current step ends with an outcome after which the plan goes on (R117). -/
def passStep (o : StepOutcome) (p : Part) : Res := (endStep o p, [.nextStep p.exec.serial p.exec.step])

/-- The plan's QUEUED entries are cancelled; whether any was (R129, R132). DESIGN CHOICE (log 47): the spec does not say
what a SHEDFIT step's record then shows for the group of such an entry; its outcome stays absent. -/
def cancelQueued (p : Part) : Part :=
  let queued := p.exec.outstanding.filter p.isQueued
  let p := queued.foldl (fun p n => p.cancelEntry n) p
  p.setExec
    { p.exec with
      outstanding := p.exec.outstanding.filter (fun n => !queued.contains n)
      stepCut := p.exec.stepCut || !queued.isEmpty }

/-- The plan's end is decided with an outcome, which is set in the record and reported (R129, R130, R132, R133). -/
def decideEnd (o : PlanOutcome) (p : Part) : Part :=
  let p := p.updateRecord p.exec.serial (fun r => { r with outcome := some o })
  p.setExec { p.exec with state := .aborting, decided := true }

/-! ### How a plan fails (R129) -/

/-- The kind of fault that the executor records for a reason, where it records one (R129). -/
def faultKindOf : Reason → Option FaultKind
  | .breakerLost => some .breakerLost
  | .interlock => some .interlock
  | .syncTimeout => some .syncTimeout
  | .waitTimeout => some .waitTimeout
  | .capacity => some .capacity
  | .genStartTimeout | .genStartFailed => some .genStartTimeout
  | _ => none

/-- What a step names in its fault: its breaker, or its source and bus set (R129). -/
def stepNames (s : Step) (f : FaultRecord) : FaultRecord :=
  match s with
  | .opn b _ => { f with breaker := some b }
  | .close b _ => { f with breaker := some b }
  | .sync b _ _ _ => { f with breaker := some b }
  | .run s => { f with source := some s }
  | .stop s => { f with source := some s }
  | .waitHealthy s _ => { f with source := some s }
  | .shedFit s buses => { f with source := some s, bus := some buses }
  | .waitDead _ _ _ => f
  | .dwell _ => f

/-- The snapshots of a step's fault: those of a WAITDEAD step whose wait timed out (R129). -/
def stepSnapshots (s : Step) (reason : Reason) (p : Part) : List Snapshot :=
  match s, reason with
  | .waitDead q _ _, .waitTimeout => p.snapshots q
  | _, _ => []

/-- The fault of a failed step, where the executor records one (R129). -/
def stepFault (reason : Reason) (p : Part) : List Task :=
  match faultKindOf reason, p.exec.plan, p.currentStep with
  | some kind, some pl, some s =>
    let f :=
      { blankFault kind with
        channel := some pl.channel
        template := some pl.template
        step := some p.exec.step
        snapshots := stepSnapshots s reason p }
    [.recordFault (stepNames s f)]
  | _, _, _ => []

/-- The current step of a RUNNING plan fails, and the plan with it (R129). -/
def failNow (reason : Reason) (p : Part) : Res :=
  let told := stepFault reason p
  let p := cancelQueued (endStep (.failed reason) p)
  (decideEnd (.failed reason) p, [.planEnded (.failed reason)] ++ told ++ [.windDown])

/-- A step fails, if it is still the one that runs (R118, R129). -/
def failStep (serial step : Nat) (reason : Reason) (p : Part) : Res :=
  if p.stepRuns serial step then failNow reason p else (p, [])

/-! ### The parallel guard (R134, R135, R137) -/

/-- Whether a guard watches a bus. -/
def GuardRecord.watches (g : GuardRecord) : Bus → Bool
  | .a => g.watchA
  | .b => g.watchB

/-- The buses that a SYNC step's breaker joins (R134). -/
def Part.guardBuses (p : Part) : Breaker → List Bus
  | .incomer s =>
    if (p.breaker .coupler).position = .closed then [p.home s, otherBus (p.home s)] else [p.home s]
  | .coupler => allBuses
  | .feeder _ => []

/-- The guard is judged when a SYNC step's attempt ends DONE (R134). -/
def judgeGuard (b : Breaker) (reference incoming : Point) (set : Fin 4) (p : Part) : Part :=
  let watched := (p.guardBuses b).filter (fun x => (p.bus x).feed == .parallel)
  match p.exec.plan, watched with
  | some pl, _ :: _ =>
    let limit := ms (p.syncSettings.get set).parallelLimit
    let g : GuardRecord :=
      { state := .running
        target := b
        watchA := watched.contains .a
        watchB := watched.contains .b
        start := p.now
        limit := limit
        timer := .start limit
        trip := none
        serial := p.exec.serial
        channel := pl.channel
        template := pl.template
        reference := reference
        incoming := incoming }
    let p := guardStarted { p with guard := g }
    p.updateRecord p.exec.serial (fun r => { r with guard := ⟨.running, some p.now, none, none⟩ })
  | _, _ => p

/-- A guard ends: it is ABSENT, the Monitor is told, and the end is written in the record of its plan (R135, R137).
DESIGN CHOICE (log 40): the spec does not say what its other fields then show; the trip entry becomes absent, and the
trip target, watched buses, start stamp and limit keep their values. -/
def endGuard (mark : GuardMark) (p : Part) : Part :=
  let serial := p.guard.serial
  let p := guardEnded { p with guard := { p.guard with state := .absent, timer := .stopped, trip := none } }
  p.updateRecord serial (fun r => { r with guard := { r.guard with mark := mark, ended := some p.now } })

/-- A change of feeding is told to the guard, which ends once no watched bus is PARALLEL (R135, R137). -/
def guardFeed (p : Part) : Res :=
  let watching := allBuses.any (fun x => p.guard.watches x && (p.bus x).feed == .parallel)
  match p.guard.state, watching with
  | .running, false => (endGuard .endedFeed p, [.windDown])
  | .tripping, false => (endGuard .tripped p, [.windDown])
  | _, _ => (p, [])

/-! ### Beginning a step (R117–R127) -/

/-- The target's entry of the current step is inserted, and the step waits for it, or fails (R118). -/
def placeEntryFor (target : Target) (action : Action) (group : Option Grp) (p : Part) : Res :=
  match p.exec.plan with
  | none => (p, [])
  | some pl =>
    let owner : Owner := .step p.exec.serial pl.channel pl.template p.exec.step group
    match p.insertEntry target action owner none with
    | .error reason => (p, [.failStep p.exec.serial p.exec.step reason])
    | .ok (p, num) =>
      (p.setExec { p.exec with phase := some .entries, outstanding := p.exec.outstanding ++ [num] }, [.handOver])

/-- The current step waits on its timer (R114). -/
def waitTimer (duration : Nat) (p : Part) : Res :=
  (p.setExec { p.exec with phase := some .timer, timer := .start duration }, [])

/-- The bus side of a breaker reads dead (R120, step 2). -/
def Part.busSideDead (p : Part) : Breaker → Bool
  | .incomer s => p.readsDead (.bus (p.home s))
  | .coupler => p.readsDead (.bus .a) || p.readsDead (.bus .b)
  | .feeder g => p.readsDead (.bus (p.groupBus g))

/-- The group whose shed mark an OPEN step of the plan sets: that of the built-in shed plan (R128). -/
def shedGroup (p : Part) : Option Grp :=
  match p.exec.plan with
  | some pl =>
    match pl.channel, pl.template with
    | .shed _, .builtIn => pl.group
    | _, _ => none
  | none => none

/-- An OPEN step begins (R119). -/
def beginOpen (b : Breaker) (p : Part) : Res :=
  if (p.breaker b).position = .opn then passStep .done p else placeEntryFor (.breaker b) .opn (shedGroup p) p

/-- A CLOSE step begins (R120). -/
def beginClose (b : Breaker) (deadBus : Bool) (p : Part) : Res :=
  if (p.breaker b).position = .closed then passStep .done p
  else if deadBus && !p.busSideDead b then failNow .notDead p
  else placeEntryFor (.breaker b) .close none p

/-- A SYNC step begins (R121). -/
def beginSync (b : Breaker) (reference incoming : Point) (set : Fin 4) (p : Part) : Res :=
  if (p.breaker b).position = .closed then passStep .done p
  else if !p.timeGood then failNow .timeNotLocked p
  else if p.guardRuns then failNow .parallelBusy p
  else
    match p.exec.plan with
    | none => (p, [])
    | some pl =>
      let p := p.setExec { p.exec with phase := some .attempt }
      startAttempt b reference incoming set pl.channel pl.template p.exec.step p

/-- A RUN step begins (R124). -/
def beginRun (s : Src) (p : Part) : Res :=
  if (p.source s).gen.startFailed then failNow .genStartFailed p
  else if (p.source s).gen.running then passStep .done p
  else placeEntryFor (.source s) .run none p

/-- A STOP step begins (R125). -/
def beginStop (s : Src) (p : Part) : Res :=
  if !(p.source s).gen.running then passStep .done p else placeEntryFor (.source s) .stop none p

/-- A SHEDFIT step begins: its fit is worked, and its shed list is stored (R127). -/
def beginShedFit (s : Src) (buses : BusSet) (p : Part) : Res :=
  let fit := p.fit buses (p.capacity s)
  if !fit.pass then failNow .capacity p
  else if fit.shed.isEmpty then passStep .done p
  else
    let p := p.updateStep (fun r => { r with shed := fit.shed.map (fun g => (g, none)) })
    (p.setExec { p.exec with phase := some .entries }, [.shedNext p.exec.serial p.exec.step fit.shed])

/-- The next OPEN of a SHEDFIT step is inserted, and so on down its list, while the step runs (R127). -/
def shedNext (serial step : Nat) (groups : List Grp) (p : Part) : Res :=
  match groups with
  | [] => (p, [])
  | g :: rest =>
    if p.stepRuns serial step then
      let (p, told) := placeEntryFor (.breaker (.feeder g)) .opn (some g) p
      (p, told ++ [.shedNext serial step rest])
    else (p, [])

/-- A step begins, by its kind (R117, R119–R127). -/
def beginKind (s : Step) (p : Part) : Res :=
  match s with
  | .opn b _ => beginOpen b p
  | .close b deadBus => beginClose b deadBus p
  | .sync b r i set => beginSync b r i set p
  | .waitDead q limit _ => if p.readsDead q then passStep .done p else waitTimer (ms limit) p
  | .dwell time => if time = 0 then passStep .done p else waitTimer (ms time) p
  | .run s => beginRun s p
  | .stop s => beginStop s p
  | .waitHealthy s limit =>
    if (p.source s).state = .healthy then passStep .done p else waitTimer (seconds limit) p
  | .shedFit s buses => beginShedFit s buses p

/-- The current step of a hand-over begins, if it has not (R117). -/
def beginStep (serial step : Nat) (p : Part) : Res :=
  if p.stepRuns serial step && p.exec.phase.isNone then
    match p.currentStep with
    | some s => beginKind s p
    | none => (p, [])
  else (p, [])

/-- A step has ended DONE or SKIPPED: the next begins, or the plan is COMPLETED (R117, R130). -/
def nextStep (serial step : Nat) (p : Part) : Res :=
  if p.exec.state = .running ∧ p.exec.decided = false ∧ p.exec.serial = serial ∧ p.exec.step = step then
    match p.exec.plan with
    | none => (p, [])
    | some pl =>
      if pl.steps.length ≤ step then (decideEnd .completed p, [.planEnded .completed, .windDown])
      else
        let p := p.setExec { p.exec with step := step + 1, phase := none, stepFailed := none, stepCut := false }
        (p.updateStep (fun r => { r with outcome := none }), [.beginStep serial (step + 1)])
  else (p, [])

/-! ### Winding down (R131) -/

/-- A plan whose end is decided becomes IDLE once nothing is outstanding and no guard runs (R131). -/
def windDown (p : Part) : Res :=
  if p.exec.decided && p.exec.outstanding.isEmpty && !p.guardRuns && p.exec.phase != some .attempt then
    let p := p.updateRecord p.exec.serial (fun r => { r with ended := some p.now })
    (monitorIdle { p with exec := ExecRecord.init p.exec.serial }, [.load, .arbiterIdle])
  else (p, [])

/-! ### Abort (R132, R133) -/

/-- The plan's end is decided ABORTED (R132, R133). -/
def decideAborted (p : Part) : Res :=
  let o : PlanOutcome := .aborted (p.exec.cause.getD .preempt)
  (decideEnd o p, [.planEnded o, .windDown])

/-- The current step ends ABANDONED, if it has not ended, and the plan ABORTED (R132, steps 3 and 4). -/
def abandonStep (p : Part) : Res := decideAborted (if p.stepOpen then endStep .abandoned p else p)

/-- Whether the attempt is CONFIRMING. -/
def Part.attemptConfirms (p : Part) : Bool :=
  match p.attempt with
  | some a => a.state == .confirming
  | none => false

/-- The Request Arbiter orders an abort (R132). DESIGN CHOICE (log 41): the spec names no phase for an order that finds the
current step without one; a step still open ends ABANDONED, an ended one is kept, and the end is decided ABORTED. -/
def abort (cause : AbortCause) (p : Part) : Res :=
  if p.exec.state = .running then
    let p := cancelQueued (p.setExec { p.exec with state := .aborting, cause := some cause })
    match p.exec.phase with
    | some .attempt => if p.attemptConfirms then (p, []) else abandonStep (abandonAttempt p)
    | some .entries => if p.exec.outstanding.isEmpty then abandonStep p else (p, [])
    | some .timer | none => abandonStep p
  else (p, [])

/-- A step that still waits after its plan was aborted, or failed by its guard, ends once its entries are resolved
(R133, R136). -/
def settleAborted (p : Part) : Res :=
  if p.stepOpen && p.exec.outstanding.isEmpty && p.exec.phase == some .entries then
    let o : StepOutcome :=
      match p.exec.stepFailed with
      | some r => .failed r
      | none => if p.exec.stepCut then .abandoned else .done
    let p := endStep o p
    if p.exec.decided then (p, [.windDown]) else decideAborted p
  else (p, [.windDown])

/-! ### Entry outcomes (R118, R127, R128) -/

/-- The reason that an entry's outcome gives the step that owns it (R118). -/
def stepReason (s : Step) (o : EntryOutcome) : Option Reason :=
  match s, o with
  | .run _, .timedOut | .run _, .unconfirmed => some .genStartTimeout
  | .stop _, .timedOut | .stop _, .unconfirmed => some .genStopTimeout
  | _, _ => breakerReason o

/-- An entry's outcome is written against its group in the SHEDFIT step's list (R116, R131). -/
def markGroup (group : Option Grp) (o : EntryOutcome) (r : StepRecord) : StepRecord :=
  { r with shed := r.shed.map (fun x => if some x.1 = group then (x.1, some o) else x) }

/-- Whether every entry of a step's shed list has been CONFIRMED (R127). -/
def StepRecord.allShed (r : StepRecord) : Bool := r.shed.all (fun x => x.2 == some .confirmed)

/-- The hand-off of a confirmed shed to the Load Manager (R128). -/
def shedTold (group : Option Grp) (o : EntryOutcome) : List Task :=
  match group, o with
  | some g, .confirmed => [.shedMark g]
  | _, _ => []

/-- A step that ends DONE on a confirmation ends a RUNNING guard of its own plan where it is an end-parallel OPEN (R119,
R135). -/
def endParallel (s : Step) (p : Part) : Part :=
  match s with
  | .opn _ true => if p.guard.state = .running ∧ p.guard.serial = p.exec.serial then endGuard .endedOpen p else p
  | _ => p

/-- An entry of the running step is CONFIRMED (R119, R120, R124, R125, R127). -/
def entryConfirmed (s : Step) (told : List Task) (p : Part) : Res :=
  let finished :=
    match p.stepRecord with
    | some r => r.allShed
    | none => false
  if finished then
    let (p, next) := passStep .done p
    (endParallel s p, told ++ next)
  else (p, told)

/-- An entry of an aborting or ended plan is resolved (R131, R133). -/
def entryAborting (s : Step) (reason : Option Reason) (told : List Task) (p : Part) : Res :=
  let p := p.setExec { p.exec with stepFailed := p.exec.stepFailed <|> reason }
  let wasOpen := p.stepOpen
  let (p, next) := settleAborted p
  let p := if wasOpen && !p.stepOpen && reason.isNone then endParallel s p else p
  (p, told ++ next)

/-- The Command Scheduler reports an entry to the step that owns it (R118). A plan that no longer exists is not told. -/
def stepEntry (num : CmdNum) (owner : Owner) (o : EntryOutcome) (p : Part) : Res :=
  match owner, p.exec.plan with
  | .step serial _ _ _ group, some _ =>
    if p.exec.serial = serial ∧ p.exec.outstanding.contains num then
      let p := p.setExec { p.exec with outstanding := p.exec.outstanding.filter (· != num) }
      let p := p.updateStep (markGroup group o)
      let told := shedTold group o
      match p.currentStep with
      | none => (p, told)
      | some s =>
        let reason := stepReason s o
        if p.exec.state = .running then
          match reason with
          | none => entryConfirmed s told p
          | some r => if p.stepOpen then failNow r p else (p, [])
        else entryAborting s reason told p
    else (p, [])
  | _, _ => (p, [])

/-! ### What else a waiting step waits for (R122–R126) -/

/-- A reading accepted at a point that a WAITDEAD step waits on (R122). -/
def waitDeadCheck (pt : Point) (p : Part) : Res :=
  match p.currentStep, p.exec.phase with
  | some (.waitDead q _ _), some .timer =>
    if p.exec.state = .running ∧ q = pt ∧ p.readsDead q then passStep .done p else (p, [])
  | _, _ => (p, [])

/-- A change of a source's state reaches a WAITHEALTHY step (R126). -/
def healthCheck (s : Src) (p : Part) : Res :=
  match p.currentStep, p.exec.phase with
  | some (.waitHealthy q _), some .timer =>
    if p.exec.state = .running ∧ q = s ∧ (p.source s).state = .healthy then passStep .done p else (p, [])
  | _, _ => (p, [])

/-- A change of a generator record reaches a RUN step (R124). -/
def runCheck (s : Src) (p : Part) : Res :=
  match p.currentStep, p.exec.phase with
  | some (.run q), some .entries =>
    if p.exec.state = .running ∧ q = s ∧ (p.source s).gen.startFailed then failNow .genStartFailed p else (p, [])
  | _, _ => (p, [])

/-- A step timer expires, where the current step is of the kind that waits on it (R122, R123, R126). -/
def Part.timerExpires (p : Part) : Bool :=
  p.exec.state == .running && p.exec.phase == some .timer && p.exec.timer.due

/-- The WAITDEAD step timer expires (R122). -/
def waitdeadTimeout (p : Part) : Res :=
  match p.currentStep with
  | some (.waitDead _ _ goOn) =>
    if p.timerExpires then (if goOn then passStep .skipped p else failNow .waitTimeout p) else (p, [])
  | _ => (p, [])

/-- The DWELL step timer expires (R123). -/
def dwellExpiry (p : Part) : Res :=
  match p.currentStep with
  | some (.dwell _) => if p.timerExpires then passStep .done p else (p, [])
  | _ => (p, [])

/-- The WAITHEALTHY step timer expires (R126). -/
def waithealthyTimeout (p : Part) : Res :=
  match p.currentStep with
  | some (.waitHealthy _ _) => if p.timerExpires then failNow .waitTimeout p else (p, [])
  | _ => (p, [])

/-- The attempt reports to its SYNC step (R121, R133, R151). -/
def attemptDone (p : Part) : Res :=
  match p.attempt, p.currentStep, p.exec.phase with
  | some a, some (.sync b r i set), some .attempt =>
    if a.state = .done then
      let p := judgeGuard b r i set (endStep .done p)
      if p.exec.state = .running then (p, [.nextStep p.exec.serial p.exec.step])
      else if p.exec.decided then (p, [.windDown])
      else decideAborted p
    else if p.exec.state = .running then failNow (a.reason.getD .abandoned) p
    else
      let p := endStep (.failed (a.reason.getD .abandoned)) p
      if p.exec.decided then (p, [.windDown]) else decideAborted p
  | _, _, _ => (p, [])

/-! ### The guard's trip (R136, R137) -/

/-- The guard timer expires: the trip is inserted and handed to egress, and then the rest follows (R136). -/
def guardExpiry (p : Part) : Res :=
  if p.guard.state = .running ∧ p.guard.timer.due then
    let (p, num, told) := p.insertGuard p.guard.target p.guard.serial
    ({ p with guard := { p.guard with state := .tripping, timer := .stopped, trip := some num } },
      told ++ [.handOver, .guardTripped, .guardFailPlan])
  else (p, [])

/-- The first watched bus (R136). DESIGN CHOICE (log 42): the spec does not order the watched buses; A comes before B. -/
def GuardRecord.firstWatched (g : GuardRecord) : BusSet := if g.watchA then .a else .b

/-- PARALLEL_TIMEOUT is recorded, and the record of the guard's plan shows TRIPPED (R136, steps 3 and 4). -/
def guardTripped (p : Part) : Res :=
  let g := p.guard
  let f :=
    { blankFault .parallelTimeout with
      channel := some g.channel
      template := some g.template
      breaker := some g.target
      bus := some g.firstWatched
      snapshots := p.snapshots g.reference ++ p.snapshots g.incoming }
  ((p.recordFault f).updateRecord g.serial (fun r => { r with guard := { r.guard with mark := .tripped } }), [])

/-- A RUNNING plan fails with PARALLEL_TIMEOUT: its step ends ABANDONED if nothing of it is SENT, and else as its
entries decide (R136, step 5). -/
def guardFailPlan (p : Part) : Res :=
  if p.exec.state = .running then
    let p := cancelQueued p
    let p := p.setExec { p.exec with timer := .stopped }
    let p :=
      if p.exec.phase = some .attempt then
        if p.attemptConfirms then p else endStep .abandoned (abandonAttempt p)
      else if p.stepOpen && p.exec.outstanding.isEmpty then endStep .abandoned p
      else p
    (decideEnd (.failed .parallelTimeout) p, [.planEnded (.failed .parallelTimeout), .windDown])
  else (p, [])

/-- The guard's trip entry is resolved (R137). -/
def guardEntry (num : CmdNum) (serial : Nat) (o : EntryOutcome) (p : Part) : Res :=
  let p := p.updateRecord serial (fun r => { r with guard := { r.guard with trip := some o } })
  if p.guard.state = .tripping ∧ p.guard.trip = some num then (endGuard .tripped p, [.windDown]) else (p, [])

/-! ### The report of a resolved entry (R168) -/

/-- How many entries the operate record keeps (R186). -/
def operateDepth : Nat := 4

/-- The Management Unit keeps the outcome of an entry that an OPERATE placed (R186). -/
def operateEntry (e : Entry) (o : EntryOutcome) (p : Part) : Part :=
  let row : OperateRow := ⟨e.num, e.target, e.action, e.insertedAt, e.sendStamp, e.late, o⟩
  let rows := p.management.operates ++ [row]
  p.setManagement { p.management with operates := rows.drop (rows.length - operateDepth) }

/-- An entry's outcome is reported to its owner (R168). -/
def reportEntry (e : Entry) (o : EntryOutcome) (p : Part) : Res :=
  match e.owner with
  | .step .. => (p, [.stepEntry e.num e.owner o])
  | .attempt .. => (p, [.attemptEntry e.num o])
  | .guard serial => guardEntry e.num serial o p
  | .management => (operateEntry e o p, [])

end Sys2Proof.Machine
end

