-- ==== Sys2Proof/Machine/Operands.lean ====
section
/-! DEFINITION. The operands of a request: rows as a write carries them, judged one by one and brought into range (R10,
R20, R38, R39, R62, R98–R100, R138, R156, R169, R174, R189), and the numbers a request names things by. -/

namespace Sys2Proof.Machine

/-! ### Bringing values into range (R189) -/

/-- A field of a row: its index, the ends of its range, and its value. -/
structure RangedField where
  index : Nat
  lo    : Nat
  hi    : Nat
  value : Nat
  deriving DecidableEq, Repr

/-- The fields of a row that lie outside their ranges (R189). -/
def outOfRange (row : Nat) (fields : List RangedField) : List FieldRef :=
  (fields.filter (fun f => !within f.lo f.hi f.value)).map (fun f => ⟨row, none, f.index⟩)

/-- A judged row, brought into range, with the fields that were; or why it refuses the write (R189, test 5). -/
abbrev Judged (α : Type) := Except RefusedReason (α × List FieldRef)

/-- The rows of a write judged in row order, from a row number on: the first that fails gives the reason (R189). -/
def judgeRows {α β : Type} (judge : Nat → α → Judged β) : Nat → List α → Judged (List β)
  | _, [] => .ok ([], [])
  | row, x :: rest =>
    match judge row x with
    | .error r => .error r
    | .ok (y, refs) =>
      match judgeRows judge (row + 1) rest with
      | .error r => .error r
      | .ok (ys, more) => .ok (y :: ys, refs ++ more)

/-- Rows laid over a table from an index on. -/
def overlay {α β : Type} {n : Nat} (f : α → β → α) : List β → Nat → Vector α n → Vector α n
  | [], _, v => v
  | b :: rest, i, v => overlay f rest (i + 1) (if h : i < n then v.set i (f v[i] b) else v)

/-! ### Settings brought into range -/

/-- The time settings brought into range (R20). -/
def judgeTime (row : Nat) (k : TimeSettings) : Judged TimeSettings :=
  .ok (⟨intoRange 0 1000 k.transit, intoRange 10 500 k.lockBand, intoRange 500 100000 k.stepThreshold,
      intoRange 1 200 k.slewLimit, intoRange 2 60 k.holdover, intoRange 100 100000 k.futureStamp⟩,
    outOfRange row
      [⟨1, 0, 1000, k.transit⟩, ⟨2, 10, 500, k.lockBand⟩, ⟨3, 500, 100000, k.stepThreshold⟩,
        ⟨4, 1, 200, k.slewLimit⟩, ⟨5, 2, 60, k.holdover⟩, ⟨6, 100, 100000, k.futureStamp⟩])

/-- The fields of a row of source settings, with their ranges (R38). -/
def sourceFields (k : SourceSettings) : List RangedField :=
  [⟨1, 0, 600, k.dead⟩, ⟨2, 800, 1200, k.acceptLo⟩, ⟨3, 800, 1200, k.acceptHi⟩, ⟨4, 700, 1300, k.holdLo⟩,
    ⟨5, 700, 1300, k.holdHi⟩, ⟨6, 45000, 55000, k.fAcceptLo⟩, ⟨7, 45000, 55000, k.fAcceptHi⟩,
    ⟨8, 45000, 55000, k.fHoldLo⟩, ⟨9, 45000, 55000, k.fHoldHi⟩, ⟨10, 0, 300, k.unbalance⟩,
    ⟨11, 100, 600000, k.pickup⟩, ⟨12, 0, 1000, k.floor1⟩, ⟨13, 0, 1000, k.floor2⟩, ⟨14, 10, 10000, k.ride1⟩,
    ⟨15, 10, 10000, k.ride2⟩, ⟨16, 10, 10000, k.ride3⟩, ⟨17, 1, 10, k.recovery⟩, ⟨18, 0, 200000, k.rated⟩,
    ⟨19, 50, 100, k.loading⟩, ⟨20, 10, 300, k.startLimit⟩]

/-- Source settings brought into range (R38). -/
def clampSource (k : SourceSettings) : SourceSettings :=
  { dead := intoRange 0 600 k.dead
    acceptLo := intoRange 800 1200 k.acceptLo
    acceptHi := intoRange 800 1200 k.acceptHi
    holdLo := intoRange 700 1300 k.holdLo
    holdHi := intoRange 700 1300 k.holdHi
    fAcceptLo := intoRange 45000 55000 k.fAcceptLo
    fAcceptHi := intoRange 45000 55000 k.fAcceptHi
    fHoldLo := intoRange 45000 55000 k.fHoldLo
    fHoldHi := intoRange 45000 55000 k.fHoldHi
    unbalance := intoRange 0 300 k.unbalance
    pickup := intoRange 100 600000 k.pickup
    floor1 := intoRange 0 1000 k.floor1
    floor2 := intoRange 0 1000 k.floor2
    ride1 := intoRange 10 10000 k.ride1
    ride2 := intoRange 10 10000 k.ride2
    ride3 := intoRange 10 10000 k.ride3
    recovery := intoRange 1 10 k.recovery
    rated := intoRange 0 200000 k.rated
    loading := intoRange 50 100 k.loading
    startLimit := intoRange 10 300 k.startLimit }

/-- A row of source settings judged: its bands and floors after clamping (R39). -/
def judgeSource (row : Nat) (k : SourceSettings) : Judged SourceSettings :=
  let c := clampSource k
  if c.acceptHi < c.acceptLo ∨ c.holdHi < c.holdLo ∨ c.fAcceptHi < c.fAcceptLo ∨ c.fHoldHi < c.fHoldLo then
    .error .value
  else if c.floor1 < c.floor2 then .error .value
  else .ok (c, outOfRange row (sourceFields k))

/-- A row of breaker settings brought into range (R62). -/
def judgeBreaker (row : Nat) (k : BreakerSettings) : Judged BreakerSettings :=
  .ok (⟨intoRange 10000 200000 k.tc, intoRange 10000 150000 k.topen, intoRange 20 2000 k.margin,
      intoRange 0 65535 k.serviceLimit⟩,
    outOfRange row
      [⟨1, 10000, 200000, k.tc⟩, ⟨2, 10000, 150000, k.topen⟩, ⟨3, 20, 2000, k.margin⟩,
        ⟨4, 0, 65535, k.serviceLimit⟩])

/-- The fields of a row of bus settings, with their ranges (R174). -/
def busFields (k : BusSettings) : List RangedField :=
  [⟨1, 47000, 50000, k.fShed⟩, ⟨2, 49000, 50500, k.fRestore⟩, ⟨3, 100, 10000, k.shedDwell⟩,
    ⟨4, 0, 10000, k.capacityDwell⟩, ⟨5, 1, 600, k.settle⟩, ⟨6, 1, 600, k.stagger⟩, ⟨7, 500, 1000, k.live⟩,
    ⟨8, 0, 600, k.dead⟩, ⟨9, 50, 2000, k.deadConfirm⟩, ⟨10, 10, 3600, k.returnDelay⟩]

/-- Bus settings brought into range (R174). -/
def clampBus (k : BusSettings) : BusSettings :=
  { fShed := intoRange 47000 50000 k.fShed
    fRestore := intoRange 49000 50500 k.fRestore
    shedDwell := intoRange 100 10000 k.shedDwell
    capacityDwell := intoRange 0 10000 k.capacityDwell
    settle := intoRange 1 600 k.settle
    stagger := intoRange 1 600 k.stagger
    live := intoRange 500 1000 k.live
    dead := intoRange 0 600 k.dead
    deadConfirm := intoRange 50 2000 k.deadConfirm
    returnDelay := intoRange 10 3600 k.returnDelay
    retransfer := k.retransfer }

/-- A row of bus settings judged: f_restore must be above f_shed after clamping (R174). -/
def judgeBus (row : Nat) (k : BusSettings) : Judged BusSettings :=
  let c := clampBus k
  if c.fRestore ≤ c.fShed then .error .value else .ok (c, outOfRange row (busFields k))

/-- The fields of a row of sync settings, with their ranges (R138); the direction is the fifth field. -/
def syncFields (k : SyncSettings) : List RangedField :=
  [⟨1, 0, 200, k.dVmax⟩, ⟨2, 1, 100, k.slipMin⟩, ⟨3, 10, 1000, k.slipMax⟩, ⟨4, 0, 300, k.angleMax⟩,
    ⟨6, 50, 1000, k.horizon⟩, ⟨7, 500, 10000, k.retime⟩, ⟨8, 10, 100, k.skew⟩, ⟨9, 1, 600, k.timeLimit⟩,
    ⟨10, 20, 2000, k.parallelLimit⟩]

/-- A row of sync settings judged: slipMin must not be above slipMax after clamping (R138). -/
def judgeSync (row : Nat) (k : SyncSettings) : Judged SyncSettings :=
  let c : SyncSettings :=
    ⟨intoRange 0 200 k.dVmax, intoRange 1 100 k.slipMin, intoRange 10 1000 k.slipMax, intoRange 0 300 k.angleMax,
      k.direction, intoRange 50 1000 k.horizon, intoRange 500 10000 k.retime, intoRange 10 100 k.skew,
      intoRange 1 600 k.timeLimit, intoRange 20 2000 k.parallelLimit⟩
  if c.slipMax < c.slipMin then .error .value else .ok (c, outOfRange row (syncFields k))

/-- The schedule settings brought into range (R156). -/
def judgeSchedule (row : Nat) (k : ScheduleSettings) : Judged ScheduleSettings :=
  .ok (⟨intoRange 500 20000 k.minLead, intoRange 1000 50000 k.sendLead, intoRange 100 10000 k.lateTol,
      intoRange 100000 5000000 k.horizon⟩,
    outOfRange row
      [⟨1, 500, 20000, k.minLead⟩, ⟨2, 1000, 50000, k.sendLead⟩, ⟨3, 100, 10000, k.lateTol⟩,
        ⟨4, 100000, 5000000, k.horizon⟩])

/-- The status period brought into range (R195). -/
def judgePeriod (row : Nat) (period : Nat) : Judged Nat :=
  .ok (intoRange 50 1000 period, outOfRange row [⟨1, 50, 1000, period⟩])

/-- A row of the group table judged (R169). -/
def judgeGroup (row : Nat) (k : GroupWrite) : Judged GroupWrite :=
  if 15 < k.rank then .error .value
  else .ok ({ k with demand := intoRange 0 50000 k.demand }, outOfRange row [⟨1, 0, 50000, k.demand⟩])

/-- A written row of the port tally table: every field must be 0 (R18). -/
def judgeTallies (_row : Nat) (k : PortTallies) : Judged PortTallies :=
  if k = PortTallies.zero then .ok (k, []) else .error .value

/-! ### The unit map (R10) -/

/-- The default silence limit of a role in ms, where it has one (R10). -/
def silenceDefault : Role → Option Nat
  | .point _ => some 50
  | .breaker _ => some 300
  | .genctl _ => some 500
  | .timeMaster => some 3000
  | .manager _ | .empty => none

/-- A row with the defaults that a 0 stands for (R10). -/
def withDefaults (k : UnitMapRow) : UnitMapRow :=
  { k with
    silence := if k.silence = 0 then (silenceDefault k.role).getD 0 else k.silence
    loss := if k.loss = 0 then 4 else k.loss }

/-- A row of the unit map judged; the other fields of an EMPTY row are kept as written (R10). -/
def judgeUnitRow (row : Nat) (k : UnitMapRow) : Judged UnitMapRow :=
  if k.role = .empty then .ok (k, [])
  else
    let d := withDefaults k
    .ok ({ d with silence := intoRange 10 60000 d.silence, loss := intoRange 1 15 d.loss },
      outOfRange row [⟨5, 10, 60000, d.silence⟩, ⟨6, 1, 15, d.loss⟩])

/-! ### Templates (R98, R99) -/

/-- A written step as a step, with its parameter brought into range; none for a structural fault (R98, R99). -/
def stepOf : StepWrite → Option Step
  | .opn b e => (Breaker.ofNumber b).map (fun b => .opn b e)
  | .close b d => (Breaker.ofNumber b).map (fun b => .close b d)
  | .sync b r i n => do
    let b ← Breaker.ofNumber b
    let r ← Point.ofNumber r
    let i ← Point.ofNumber i
    let n ← indexOf 4 n
    if 5 < b.number ∨ r = i then none else some (.sync b r i n)
  | .waitDead q limit c => (Point.ofNumber q).map (fun q => .waitDead q (intoRange 10 60000 limit) c)
  | .dwell time => some (.dwell (intoRange 0 600000 time))
  | .run s => (srcOfNumber s).map .run
  | .stop s => (srcOfNumber s).map .stop
  | .waitHealthy s limit => (srcOfNumber s).map (fun s => .waitHealthy s (intoRange 1 3600 limit))
  | .shedFit s buses => do
    let s ← srcOfNumber s
    let buses ← buses
    some (.shedFit s buses)
  | .unknown _ => none

/-- The parameter of a written step that lies outside its range, by its position in R98 (R99, R189). -/
def stepClamped : StepWrite → Option Nat
  | .waitDead _ limit _ => if within 10 60000 limit then none else some 2
  | .dwell time => if within 0 600000 time then none else some 1
  | .waitHealthy _ limit => if within 1 3600 limit then none else some 2
  | _ => none

/-- Written steps as steps, if none has a structural fault (R99). -/
def stepsOf : List StepWrite → Option (List Step)
  | [] => some []
  | s :: rest =>
    match stepOf s, stepsOf rest with
    | some s, some more => some (s :: more)
    | _, _ => none

/-- The clamped parameters of written steps, from a step's number on (R189). -/
def stepRefs (row : Nat) : Nat → List StepWrite → List FieldRef
  | _, [] => []
  | n, s :: rest =>
    (match stepClamped s with
      | some i => [⟨row, some n, i⟩]
      | none => []) ++ stepRefs row (n + 1) rest

/-- Written required sources, if every one names a source (R97, R99). -/
def requiredOf : List (Nat × RequiredMark) → Option (List (Src × RequiredMark))
  | [] => some []
  | (n, m) :: rest =>
    match srcOfNumber n, requiredOf rest with
    | some s, some more => some ((s, m) :: more)
    | _, _ => none

/-- A written capacity check, if its source and bus set are within their values (R97, R99). -/
def capacityOf : Option (Nat × Option BusSet) → Option (Option (Src × BusSet))
  | none => some none
  | some (n, buses) =>
    match srcOfNumber n, buses with
    | some s, some set => some (some (s, set))
    | _, _ => none

/-- A row of the template table judged (R99). -/
def judgeTemplateRow (row : Nat) (k : TemplateWrite) : Judged Template :=
  if 12 < k.stepCount ∨ k.steps.length ≠ k.stepCount then .error .value
  else
    match stepsOf k.steps, requiredOf k.required, capacityOf k.capacity with
    | some steps, some required, some capacity =>
      if 4 < required.length ∨ ¬ (required.map (·.1)).Nodup then .error .value
      else .ok (⟨k.nameTag, steps, required, capacity, k.closed⟩, stepRefs row 1 k.steps)
    | _, _, _ => .error .value

/-- Template numbers as a candidate list holds them, if every one is 1–24 (R100). -/
def numbersOf : List Nat → Option (List (Fin 24))
  | [] => some []
  | n :: rest =>
    match indexOf 24 n, numbersOf rest with
    | some i, some more => some (i :: more)
    | _, _ => none

/-- A row of the candidate lists judged (R100). -/
def judgeCandidates (_row : Nat) (k : List Nat) : Judged (List (Fin 24)) :=
  match numbersOf k with
  | some l => if 4 < l.length ∨ ¬ l.Nodup then .error .value else .ok (l, [])
  | none => .error .value

end Sys2Proof.Machine
end

