-- ==== Sys2Proof/Machine/Sources.lean ====
section
/-! DEFINITION. The Source Supervisor: reading intake (R29, R32–R36), judging a reading (R40, R41), source qualification
with the dip meter (R42–R50), the excursion history (R51, R52) and the generator records (R53). -/

namespace Sys2Proof.Machine

/-! ### Reading intake (R32, R33) -/

/-- A reading brought into range, with its CLAMPED mark (R33). -/
def readingOf (b : RawReading) : Reading :=
  { magA := min 2000 b.magA.toNat
    magB := min 2000 b.magB.toNat
    magC := min 2000 b.magC.toNat
    angle := b.angle.toNat % 3600
    freq := intoRange 40000 60000 b.freq.toNat
    valid := b.valid
    test := b.test
    clamped := !within 40000 60000 b.freq.toNat
    stamp := b.stamp.toNat }

/-- Whether a stamp is not later than a point's last accepted stamp (R32, test 3). -/
def staleStamp (last : Option Nat) (stamp : Nat) : Bool :=
  match last with
  | some t => stamp ≤ t
  | none => false

/-- An accepted reading in its point record (R33, R34): a valid one returns the invalid run to 0 and makes the point
SEEN (R35), another counts toward the run. -/
def PointRecord.store (q : PointRecord) (r : Reading) : PointRecord :=
  let q :=
    { q with
      latest := some r
      lastStamp := some r.stamp
      clampTally := if r.clamped then tick16 q.clampTally else q.clampTally }
  if r.valid then { q with latestValid := some r, invalidRun := 0, seen := true }
  else { q with invalidRun := min 3 (q.invalidRun + 1) }

/-- The hand-offs of a valid reading (R35, R36): source qualification or the bus live state, the Synchronising Unit, the
Load Manager, and a WAITDEAD step that waits on the point (R122). -/
def validTasks (pt : Point) (r : Reading) : List Task :=
  match pt with
  | .line s => [.sourceReading s r, .evaluate pt, .waitDeadCheck pt]
  | .bus x => [.liveState x, .evaluate pt, .load, .waitDeadCheck pt]

/-- A READING frame passed on for a point is tested, stored and handed on (R32–R36). -/
def takeReading (pt : Point) (b : RawReading) (p : Part) : Res :=
  let q := p.point pt
  let r := readingOf b
  if r.test && !q.testAccept then (p.setPoint pt { q with testTally := tick16 q.testTally }, [])
  else if p.timeGood && p.now + p.time.settings.futureStamp < r.stamp then
    (p.setPoint pt { q with futureTally := tick16 q.futureTally }, [])
  else if staleStamp q.lastStamp r.stamp then (p.setPoint pt { q with oldTally := tick16 q.oldTally }, [])
  else
    let q' := q.store r
    let p := p.setPoint pt q'
    if r.valid then (p, validTasks pt r)
    else (p, (if q.seen && q'.invalidRun == 3 then [.pointBlind pt] else []) ++ [.waitDeadCheck pt])

/-! ### Judging a reading (R40, R41) -/

/-- Whether every phase magnitude lies within a band. -/
def Reading.allWithin (r : Reading) (lo hi : Nat) : Bool :=
  within lo hi r.magA && within lo hi r.magB && within lo hi r.magC

/-- A reading is DEAD against source settings (R40). -/
def isDead (k : SourceSettings) (r : Reading) : Bool := r.largest ≤ k.dead

/-- The unbalance test (R40). -/
def balanced (k : SourceSettings) (r : Reading) : Bool := r.largest - r.smallest ≤ k.unbalance

/-- IN-ACCEPT (R40). -/
def inAccept (k : SourceSettings) (r : Reading) : Bool :=
  !isDead k r && r.allWithin k.acceptLo k.acceptHi && within k.fAcceptLo k.fAcceptHi r.freq && balanced k r

/-- IN-HOLD (R40). -/
def inHold (k : SourceSettings) (r : Reading) : Bool :=
  !isDead k r && r.allWithin k.holdLo k.holdHi && within k.fHoldLo k.fHoldHi r.freq && balanced k r

/-- The depth class of a reading that is not IN-HOLD (R41). A DEAD reading is of class 3 (R41, R48, log 9). -/
def depthClass (k : SourceSettings) (r : Reading) : DepthClass :=
  if isDead k r then .c3
  else if k.floor1 ≤ r.smallest || r.allWithin k.holdLo k.holdHi then .c1
  else if k.floor2 ≤ r.smallest then .c2
  else .c3

/-! ### Excursions (R47–R51) -/

/-- The deeper of two depth classes. -/
def deeper : DepthClass → DepthClass → DepthClass
  | .c3, _ => .c3
  | _, .c3 => .c3
  | .c2, _ => .c2
  | _, .c2 => .c2
  | .c1, .c1 => .c1

/-- The excursion that a reading starts (R47). -/
def Excursion.first (c : DepthClass) (r : Reading) : Excursion :=
  { start := r.stamp
    seen1 := c == .c1
    seen2 := c == .c2
    seen3 := c == .c3
    deepest := r.smallest
    deepestClass := c
    run := 0
    runStart := none
    last := r.stamp }

/-- An excursion extended by a reading that is not IN-HOLD (R48, 1–4). -/
def Excursion.extend (e : Excursion) (c : DepthClass) (r : Reading) : Excursion :=
  { e with
    seen1 := e.seen1 || c == .c1
    seen2 := e.seen2 || c == .c2
    seen3 := e.seen3 || c == .c3
    deepest := min e.deepest r.smallest
    deepestClass := deeper e.deepestClass c
    run := 0
    runStart := none
    last := r.stamp }

/-- An excursion with one more IN-HOLD reading in its recovery run (R49). -/
def Excursion.recover (e : Excursion) (r : Reading) : Excursion :=
  { e with
    run := e.run + 1
    runStart := if e.run = 0 then some r.stamp else e.runStart
    last := r.stamp }

/-- The ride limit in ms: the smallest of those of the classes seen, as now in force (R48). -/
def Excursion.limit (e : Excursion) (k : SourceSettings) : Option Nat :=
  ((if e.seen1 then [k.ride1] else []) ++ (if e.seen2 then [k.ride2] else []) ++
    (if e.seen3 then [k.ride3] else [])).min?

/-- Whether a reading with a stamp has reached the ride limit (R48). -/
def Excursion.reached (e : Excursion) (k : SourceSettings) (stamp : Nat) : Bool :=
  match e.limit k with
  | some t => ms t ≤ stamp - e.start
  | none => false

/-- A record placed after every record whose start stamp is at or before its own (R51). -/
def placeRecord (r : ExcursionRecord) : List ExcursionRecord → List ExcursionRecord
  | [] => [r]
  | h :: t => if h.start ≤ r.start then h :: placeRecord r t else r :: h :: t

/-- The depth of an excursion history (R51). -/
def historyDepth : Nat := 8

/-- A history with a record added; of nine, the one with the earliest start stamp is removed (R51). -/
def addRecord (r : ExcursionRecord) (h : List ExcursionRecord) : List ExcursionRecord :=
  let h := placeRecord r h
  h.drop (h.length - historyDepth)

/-- The record of an ended excursion (R51). -/
def Excursion.record (e : Excursion) (outcome : ExcursionOutcome) (ended : Nat) : ExcursionRecord :=
  ⟨e.start, min 65535 ((ended - e.start) / 1000), e.deepest, e.deepestClass, outcome⟩

/-- The excursion in progress, if there is one, is recorded with an outcome and removed (R51). -/
def SourceRecord.endExcursion (q : SourceRecord) (outcome : ExcursionOutcome) (ended : Excursion → Nat) :
    SourceRecord :=
  match q.excursion with
  | some e => { q with excursion := none, history := addRecord (e.record outcome (ended e)) q.history }
  | none => q

/-- The excursion in progress, if there is one, is recorded ABANDONED, measured to its last stamp (R51). -/
def SourceRecord.abandon (q : SourceRecord) : SourceRecord := q.endExcursion .abandoned (·.last)

/-- The excursion in progress is recorded RECOVERED, measured to the run start stamp, and the dip tally counts it (R49,
R52). -/
def SourceRecord.recovered (q : SourceRecord) : SourceRecord :=
  let q := q.endExcursion .recovered (fun e => e.runStart.getD e.last)
  { q with dips := tick16 q.dips }

/-- A source leaves service, or can no longer be judged: its pickup timer stops and its excursion is ABANDONED (R43,
R44). -/
def SourceRecord.leave (q : SourceRecord) (state : SourceState) : SourceRecord :=
  { q.abandon with state := state, pickup := .stopped }

/-! ### Source qualification (R44–R50) -/

/-- A source becomes RISING on a reading; the pickup timer starts if the reading is IN-ACCEPT (R44–R46, R50). -/
def SourceRecord.rise (q : SourceRecord) (k : SourceSettings) (accept : Bool) : SourceRecord :=
  { q with state := .rising, pickup := if accept then .start (ms k.pickup) else .stopped }

/-- A reading judged in RIDING (R48, R49). -/
def SourceRecord.ride (q : SourceRecord) (k : SourceSettings) (r : Reading) (e : Excursion) : SourceRecord :=
  if inHold k r then
    let e := e.recover r
    let q := { q with excursion := some e }
    if k.recovery ≤ e.run then { q.recovered with state := .healthy } else q
  else
    let e := e.extend (depthClass k r) r
    let q := { q with excursion := some e }
    if e.reached k r.stamp then { q.endExcursion .failed (fun _ => r.stamp) with state := .failed } else q

/-- A reading judged in its source's state (R44–R50). -/
def SourceRecord.judge (q : SourceRecord) (k : SourceSettings) (r : Reading) : SourceRecord :=
  match q.state with
  | .out => q
  | .dead => if isDead k r then q else q.rise k (inAccept k r)
  | .rising =>
    if isDead k r then { q with state := .dead, pickup := .stopped }
    else if inAccept k r then { q with pickup := q.pickup.follow true (ms k.pickup) }
    else { q with pickup := .stopped }
  | .healthy =>
    if inHold k r then q else { q with state := .riding, excursion := some (Excursion.first (depthClass k r) r) }
  | .riding =>
    match q.excursion with
    | some e => q.ride k r e
    | none => q
  | .failed =>
    if isDead k r then { q with state := .dead } else if inAccept k r then q.rise k true else q
  | .blind =>
    if inAccept k r then q.rise k true
    else if isDead k r then { q with state := .dead }
    else { q with state := .failed }

/-- A valid reading at a line-side point is judged (R36, step 2). An entry to FAILED is recorded in the Fault Log
(R50), and a change of state is told (R42). -/
def sourceReading (s : Src) (r : Reading) (p : Part) : Res :=
  let q := p.source s
  let q' := q.judge (p.srcSet s) r
  let p := p.setSource s q'
  if q'.state = q.state then (p, [])
  else if q'.state = .failed then
    let f := { blankFault .sourceFailed with source := some s, snapshots := [snapshotOf (.line s) r] }
    (p.recordFault f, [.sourceChanged s])
  else (p, [.sourceChanged s])

/-- A point becomes BLIND, which is told to source qualification or the Monitor and to the Synchronising Unit (R35,
R44). -/
def pointBlind (pt : Point) (p : Part) : Res :=
  if (p.point pt).seen then
    let p := p.setPoint pt { p.point pt with seen := false }
    match pt with
    | .bus x => (p, [.liveState x, .evaluate pt])
    | .line s =>
      let q := p.source s
      if q.state = .out ∨ q.state = .blind then (p, [.evaluate pt])
      else (p.setSource s (q.leave .blind), [.sourceChanged s, .evaluate pt])
  else (p, [])

/-- The pickup timer of a RISING source expires, and the source becomes HEALTHY (R46). -/
def pickupExpiry (s : Src) (p : Part) : Res :=
  let q := p.source s
  if q.pickup.due then
    if q.state = .rising then
      (p.setSource s { q with state := .healthy, pickup := .stopped }, [.sourceChanged s])
    else (p.setSource s { q with pickup := .stopped }, [])
  else (p, [])

/-- A change of source state reaches the Monitor, which raises LOST for each bus the source alone feeds when it has
entered FAILED (R71) and judges the return timers (R73), and then the Plan Executor (R42, R126). DESIGN CHOICE (log 46):
the spec gives two raises of one event no order; LOST_A, with any take that follows it, comes before LOST_B. -/
def sourceChanged (s : Src) (p : Part) : Res :=
  let lost :=
    if (p.source s).state = .failed then
      (allBuses.filter (fun x => (p.bus x).feed == .fed s)).map Task.raiseLost
    else []
  (p.judgeReturns, lost ++ [.healthCheck s])

/-! ### Generator records (R53) -/

/-- The generator record a GENSTAT gives: an eighths value above 8 is taken as 8 (R53). -/
def genRecordOf (b : GenReport) : GenRecord := ⟨b.running, b.ready, min 8 b.eighths.toNat, b.startFailed⟩

/-- Whether running or eighths differ between two generator records (R53). -/
def capacityDiffers (a b : GenRecord) : Bool := a.running != b.running || a.eighths != b.eighths

/-- A GENSTAT frame passed on replaces the record of a GENERATOR source (R53). -/
def takeGenstat (s : Src) (b : GenReport) (p : Part) : Res :=
  if p.kind s = .generator then
    let old := (p.source s).gen
    let gen := genRecordOf b
    (p.setSource s { p.source s with gen := gen }, [.genChanged s true (capacityDiffers old gen)])
  else (p, [])

/-- The generator record of a source is zeroed when its unit is LOST or unbound (R53). -/
def genGone (s : Src) (p : Part) : Res :=
  let old := (p.source s).gen
  (p.setSource s { p.source s with gen := GenRecord.zero },
    [.genChanged s false (capacityDiffers old GenRecord.zero)])

/-- A generator record handed on: to the Command Scheduler, to the Plan Executor and, where running or eighths changed,
to the Load Manager (R53). Only a GENSTAT frame is matched against entries (R166). -/
def genChanged (s : Src) (replaced loadChanged : Bool) (p : Part) : Res :=
  (p, (if replaced then [.sourceEntries s] else []) ++ [.runCheck s] ++ (if loadChanged then [.load] else []))

end Sys2Proof.Machine
end

