-- ==== Sys2Proof/Machine/Tables.lean ====
section
/-! DEFINITION. The 26 tables: their sizes (R187), and the rows that READ_ROWS returns (R188). -/

namespace Sys2Proof.Machine

/-- How many rows a table has; none for a number that no table has (R187). -/
def tableRows (table : Nat) : Option Nat :=
  if within 1 26 table then
    [32, 22, 24, 6, 1, 2, 1, 6, 4, 21, 4, 1, 2, 16, 1, 4, 12, 1, 2, 1, 16, 4, 12, 2, 14, 4][table - 1]?
  else none

/-- The item of a vector at a row number, where the vector has one. -/
def rowAt {α : Type} {n : Nat} (v : Vector α n) (row : Nat) : Option α := (indexOf n row).map v.get

/-- A row of the topology table: 1–4 sources, 5–6 buses, 7–22 groups (R65, R187). -/
def topologyRow (p : Part) (row : Nat) : Option RowData :=
  match srcOfNumber row, grpOfNumber (row - 6) with
  | some s, _ => some (.topology (.source (p.kind s) (p.home s)))
  | none, some g => some (.topology (.group (p.groupBus g)))
  | none, none =>
    if row = 5 then some (.topology (.bus p.topology.preferred.a))
    else if row = 6 then some (.topology (.bus p.topology.preferred.b))
    else none

/-- A row of the source settings with its read-only fields (R38). -/
def sourceRow (p : Part) (s : Src) : RowData :=
  let r := p.source s
  .source (p.srcSet s) r.state r.pickup.isRunning r.excursion r.dips r.gen (p.capacity s)

/-- The bus of a row number 1–2. -/
def busOfRow (row : Nat) : Option Bus := if row = 1 then some .a else if row = 2 then some .b else none

/-- The port of a row number 1–2. -/
def portOfRow (row : Nat) : Option Port := if row = 1 then some .one else if row = 2 then some .two else none

/-- A row of the unit map with the fields of its unit record that R10 lists. -/
def unitMapRow (p : Part) (r : Fin 32) : RowData :=
  let u := p.unit r
  .unitMap (p.row r) u.state u.expected u.miss u.goodRun u.last u.stale

/-- The row of the time settings with the time record (R20). -/
def timeRow (t : TimeBase) : RowData :=
  .time t.settings t.state t.now t.lastError t.correction t.stepDeferred t.stepTally t.lastStep t.timeTally t.rangeTally

/-- The fields of a bus record that R68 lists. -/
def BusRecord.fields (r : BusRecord) : BusFields :=
  ⟨r.live, r.feed, r.lockout, r.deadConfirm, r.feedAtDead, r.returnTimer, r.unplannedMark⟩

/-- The fields of a load stage record as R175 lists them. -/
def LoadStage.fields (r : LoadStage) : StageFields :=
  { shed := r.shed
    freqTimer := r.freqTimer.isRunning
    capTimer := r.capTimer.isRunning
    restore := r.restore
    settle := r.settle.isRunning
    stagger := r.stagger.isRunning
    raisedOn := r.raisedOn
    lastCandidate := r.lastCandidate
    block := r.block
    requested := r.requested }

/-- A row of the bus settings with the bus record and the load stage record (R68, R174, R175). -/
def busRow (p : Part) (x : Bus) : RowData := .bus (p.busSet x) (p.bus x).fields (p.stage x).fields

/-- A row of the group table with its read-only fields; clear shed mark is always read as no (R169). -/
def groupRow (p : Part) (g : Grp) : RowData :=
  let r := p.group g
  .group r.demand r.rank r.manual false (p.groupBus g) (p.breaker (.feeder g)).position (p.groupState g) r.mark

/-- A row of the domain figures: D and H are absent for a source that feeds no bus (R172). -/
def domainRow (p : Part) (s : Src) : RowData :=
  let fed := p.fedDomain s
  if fed.isEmpty then .domain fed (p.capacity s) none none
  else .domain fed (p.capacity s) (some (p.connectedDemand s)) (some (p.headroom s))

/-- A row of the condition table, with whether its standing cause holds now (R191). -/
def conditionRow (p : Part) (row : Nat) : Option RowData :=
  allFlags[row - 1]?.map (fun f => .condition (p.condition f) (p.standing f))

/-- A row of a table as READ_ROWS returns it (R188); rows are counted from 1. -/
def Part.readRow (p : Part) (table row : Nat) : Option RowData :=
  match table with
  | 1 => (indexOf 32 row).map (unitMapRow p)
  | 2 => topologyRow p row
  | 3 => (rowAt p.templates row).map .template
  | 4 => (rowAt p.candidates row).map .candidates
  | 5 => some (.link p.link.addressing)
  | 6 => (portOfRow row).map (fun k => .portTallies (p.port k).tallies)
  | 7 => some (timeRow p.time)
  | 8 => (rowAt p.points row).map .point
  | 9 => (srcOfNumber row).map (sourceRow p)
  | 10 => (Breaker.ofNumber row).map (fun b => .breaker (p.brkSet b) (p.breaker b))
  | 11 => (rowAt p.syncSettings row).map .sync
  | 12 => some (.schedule p.schedule.settings p.schedule.tallies)
  | 13 => (busOfRow row).map (busRow p)
  | 14 => (grpOfNumber row).map (groupRow p)
  | 15 =>
    let m := p.management
    some (.management m.statusPeriod m.requests m.foreign m.refused)
  | 16 => (srcOfNumber row).map (fun s => .history (p.source s).history (p.source s).dips)
  | 17 => (rowAt p.channels row).map (fun c => .channel c p.arbiter)
  | 18 => some (.selection p.selection)
  | 19 =>
    if row = 1 then some (.currentPlan p.currentPlan p.exec p.guard) else some (.previousPlan p.previousPlan)
  | 20 => some (.attempt p.attempt)
  | 21 => some (.entry p.schedule.entries[row - 1]?)
  | 22 => (srcOfNumber row).map (domainRow p)
  | 23 => conditionRow p row
  | 24 =>
    let log := p.management.faults
    some (.fault (if row = 1 then log.first else log.second) log.dropped)
  | 25 => (rowAt p.management.faults.tallies row).map .faultTally
  | 26 => some (.operate p.management.operates[row - 1]?)
  | _ => none

/-- The rows that a READ_ROWS asks for (R188). -/
def Part.readRows (p : Part) (table first count : Nat) : List RowData :=
  (List.range count).filterMap (fun i => p.readRow table (first + i))

/-- Why a READ_ROWS is refused, where it is (R188). -/
def readRefusal (table first count : Nat) : Option RefusedReason :=
  match tableRows table with
  | none => some .value
  | some n =>
    if !within 1 8 count then some .value
    else if first = 0 ∨ n < first + count - 1 then some .row
    else none

end Sys2Proof.Machine
end

