-- ==== Sys2Proof/Machine/Writes.lean ====
section
/-! DEFINITION. The writes of tables: the tests that every write is given (R189, R190), and what each table's write does
once its rows are in place (R10, R18, R39, R62, R65, R99, R100, R156, R169, R174, R195). -/

namespace Sys2Proof.Machine

/-- The quiescent test (R190). -/
def Part.quiescentTest (p : Part) : Bool :=
  p.arbiter.mode == .halted ||
    (!p.arbiter.halt && p.exec.state == .idle && p.schedule.entries.isEmpty &&
      Channel.descending.all (fun c => (p.channel c).engaged == .no))

/-- Why a write is refused before its rows are judged (R189, tests 1 to 4). -/
def Part.writeRefusal (p : Part) (table first count : Nat) : Option RefusedReason :=
  match tableRows table with
  | none => some .value
  | some n =>
    if !within 1 8 count then some .value
    else if 16 ≤ table then some .value
    else if first = 0 ∨ n < first + count - 1 then some .row
    else if table ≤ 4 && !p.quiescentTest then some .quiescent
    else none

/-- A write is refused, and changes nothing. -/
def refused (m : Sender) (r : RefusedReason) (p : Part) : Res := (p, [.respond m (.refused r) []])

/-- The answer to an applied write (R189). -/
def appliedAnswer (refs : List FieldRef) : Answer := if refs.isEmpty then .done else .clamped refs

/-- A write whose first tests pass and whose rows are judged: it is applied and answered after its effects, or refused
(R189). -/
def writeWith {α : Type} (m : Sender) (table first count : Nat) (p : Part) (rows : Judged (List α))
    (whole : List α → Option RefusedReason) (apply : List α → Res) : Res :=
  match p.writeRefusal table first count, rows with
  | some r, _ => refused m r p
  | none, .error r => refused m r p
  | none, .ok (rows, refs) =>
    match whole rows with
    | some r => refused m r p
    | none =>
      let (p, told) := apply rows
      (p, told ++ [.respond m (appliedAnswer refs) []])

/-- A write that no test of the whole table refuses. -/
def noWholeTest {α : Type} (_rows : List α) : Option RefusedReason := none

/-! ### The unit map (R10) -/

/-- Whether a list of rows holds some key twice. -/
def repeats {α : Type} [DecidableEq α] (l : List α) : Bool := !decide l.Nodup

/-- The tests of the unit map as it would stand (R10). -/
def mapRefusal (v : Vector UnitMapRow 32) : Option RefusedReason :=
  let used := v.toList.filter (fun r => r.role != .empty)
  let stations := (used.filter (fun r => r.station.val != 0)).map (·.station)
  if repeats (used.map (·.role)) then some .duplicateRole
  else if repeats stations then some .value
  else if 2 < (used.filter (fun r => isManager r.role)).length then some .value
  else none

/-- What a write of a row of the unit map does to its unit: a changed binding discards the record, and an unchanged
one has the new loss threshold judged (R10, R15). -/
def rewriteUnit (old new : UnitMapRow) (u : UnitRecord) : UnitRecord × List Task :=
  if rowBound old && (old.station != new.station || old.role != new.role) then
    (UnitRecord.init, goneTasks u old.role)
  else if rowBound old then
    if u.state = .active ∧ missedOut new u then ({ u with state := .lost, rejoin := 0 }, lostTasks new.role)
    else (u, [])
  else (UnitRecord.init, [])

/-- The rows of a write of the unit map, from a row on, with their effects on the units (R10). DESIGN CHOICE (log 36): the
spec gives the effects no order, and owners are told and UNIT_LOST faults recorded in row order. -/
def applyMap : List UnitMapRow → Nat → Part → Res
  | [], _, p => (p, [])
  | new :: rest, i, p =>
    if h : i < 32 then
      let r : Fin 32 := ⟨i, h⟩
      let (u, told) := rewriteUnit (p.row r) new (p.unit r)
      let (p, more) := applyMap rest (i + 1) ((p.setRow r new).setUnit r u)
      (p, told ++ more)
    else (p, [])

/-- WRITE_ROWS of the unit map (R10). -/
def writeUnitMap (m : Sender) (first : Nat) (rows : List UnitMapRow) (p : Part) : Res :=
  writeWith m 1 first rows.length p (judgeRows judgeUnitRow first rows)
    (fun rows => mapRefusal (overlay (fun _ r => r) rows (first - 1) p.unitMap))
    (fun rows => applyMap rows (first - 1) p)

/-! ### The topology (R43, R65) -/

/-- A written row of the topology in its place; none where its form is not that of its place (R65, R187). -/
def topologyWith (t : Topology) (row : Nat) (k : TopologyRow) : Option Topology :=
  match k with
  | .source kind home =>
    (srcOfNumber row).map (fun (s : Src) => { t with kind := t.kind.set s kind, home := t.home.set s home })
  | .bus pref =>
    (busOfRow (row - 4)).map (fun x => { t with preferred := t.preferred.set x pref })
  | .group x => (grpOfNumber (row - 6)).map (fun (g : Grp) => { t with groupBus := t.groupBus.set g x })

/-- Written rows of the topology in their places, from a row number on. -/
def topologyWithAll : List TopologyRow → Nat → Topology → Option Topology
  | [], _, t => some t
  | k :: rest, row, t => (topologyWith t row k).bind (topologyWithAll rest (row + 1))

/-- A topology is refused where a bus's preferred source is UNUSED (R65). -/
def topologyRefused (t : Topology) : Bool :=
  [t.preferred.a, t.preferred.b].any (fun x =>
    match x with
    | some s => t.kind.get s == .unused
    | none => false)

/-- The effects of a topology write on a source: one made UNUSED becomes OUT, and one that is no longer a GENERATOR has
its generator record zeroed (R43, R53). -/
def rekindSource (old new : SourceKind) (s : Src) (p : Part) : Res :=
  let q := p.source s
  let q' := if new = .unused ∧ old ≠ .unused then q.leave .out else q
  let zero := old == .generator && new != .generator
  let q' := if zero then { q' with gen := GenRecord.zero } else q'
  (p.setSource s q',
    (if q'.state = q.state then [] else [.sourceChanged s]) ++
      (if zero then [.genChanged s false (capacityDiffers q.gen GenRecord.zero)] else []))

/-- The effects of a topology write on sources in turn. -/
def rekindAll (old : Topology) : List Src → Part → Res
  | [], p => (p, [])
  | s :: rest, p =>
    let (p, told) := rekindSource (old.kind.get s) (p.kind s) s p
    let (p, more) := rekindAll old rest p
    (p, told ++ more)

/-- A topology is put in place, with its effects: on source state, on feeding and the raisers, on the load (R65). -/
def applyTopology (t : Topology) (p : Part) : Res :=
  let (q, told) := rekindAll p.topology allSrcs { p with topology := t }
  let q' := q.recomputeFeeding
  (q', told ++ feedTasks q q' ++ [.load])

/-- WRITE_ROWS of the topology (R65). Rows of the wrong form are refused with VALUE (R185). -/
def writeTopology (m : Sender) (first : Nat) (rows : List TopologyRow) (p : Part) : Res :=
  let judged : Judged (List Topology) :=
    match topologyWithAll rows first p.topology with
    | some t => .ok ([t], [])
    | none => .error .value
  writeWith m 2 first rows.length p judged
    (fun ts => if ts.any topologyRefused then some .value else none)
    (fun ts => applyTopology (ts.headD p.topology) p)

/-! ### Templates and candidate lists (R99, R100) -/

/-- WRITE_ROWS of the templates (R97, R99). -/
def writeTemplates (m : Sender) (first : Nat) (rows : List TemplateWrite) (p : Part) : Res :=
  writeWith m 3 first rows.length p (judgeRows judgeTemplateRow first rows) noWholeTest
    (fun rows => ({ p with templates := overlay (fun _ r => r) rows (first - 1) p.templates }, []))

/-- WRITE_ROWS of the candidate lists (R100). -/
def writeCandidateLists (m : Sender) (first : Nat) (rows : List (List Nat)) (p : Part) : Res :=
  writeWith m 4 first rows.length p (judgeRows judgeCandidates first rows) noWholeTest
    (fun rows => ({ p with candidates := overlay (fun _ r => r) rows (first - 1) p.candidates }, []))

/-! ### Settings -/

/-- Whether a write of source settings changes a rated capacity or a loading limit (R39, R172). -/
def ratingDiffers (p q : Part) : Bool :=
  allSrcs.any (fun s => (p.srcSet s).rated != (q.srcSet s).rated || (p.srcSet s).loading != (q.srcSet s).loading)

/-- WRITE_ROWS of the source settings (R39). -/
def writeSourceSettings (m : Sender) (first : Nat) (rows : List SourceSettings) (p : Part) : Res :=
  writeWith m 9 first rows.length p (judgeRows judgeSource first rows) noWholeTest
    (fun rows =>
      let q := { p with sourceSettings := overlay (fun _ r => r) rows (first - 1) p.sourceSettings }
      (q, if ratingDiffers p q then [.load] else []))

/-- WRITE_ROWS of the breaker settings: a new service limit is judged at once (R62, R63). -/
def writeBreakerSettings (m : Sender) (first : Nat) (rows : List BreakerSettings) (p : Part) : Res :=
  writeWith m 10 first rows.length p (judgeRows judgeBreaker first rows) noWholeTest
    (fun rows =>
      let q := { p with breakerSettings := overlay (fun _ r => r) rows (first - 1) p.breakerSettings }
      let written := allBreakers.filter (fun b => within first (first + rows.length - 1) b.number)
      (written.foldl (fun q b => q.judgeService b) q, []))

/-- Written bus settings in their places, from a row number on. -/
def busesWith : List BusSettings → Nat → PerBus BusSettings → PerBus BusSettings
  | [], _, v => v
  | k :: rest, row, v =>
    busesWith rest (row + 1)
      (match busOfRow row with
        | some x => v.set x k
        | none => v)

/-- WRITE_ROWS of the bus settings: the return timers are judged (R73, R174), then the load stages and CAPACITY_SHORT's
cause, which read these settings (R178, R180, R181, R191; log 16). -/
def writeBusSettings (m : Sender) (first : Nat) (rows : List BusSettings) (p : Part) : Res :=
  writeWith m 13 first rows.length p (judgeRows judgeBus first rows) noWholeTest
    (fun rows => (({ p with busSettings := busesWith rows first p.busSettings }).judgeReturns, [.load]))

/-- A written row of the group table over the row it replaces (R169, R170). -/
def groupWith (r : GroupRow) (k : GroupWrite) : GroupRow :=
  ⟨k.demand, k.rank, k.manual, r.mark && !k.clearMark, r.wasClosed⟩

/-- The test of the group table as it would stand: a rank of 1–15 is held once (R169). -/
def rankRefusal (v : Vector GroupRow 16) : Option RefusedReason :=
  if repeats ((v.toList.map (·.rank)).filter (· != 0)) then some .duplicateRank else none

/-- WRITE_ROWS of the group table (R169). It reaches the Load Manager whatever it changes: a demand changes the figures
(R173), and a rank or a manual-restore flag the choices that the stages and CAPACITY_SHORT's cause rest on (R178, R180,
R181, R191; log 16). -/
def writeGroupTable (m : Sender) (first : Nat) (rows : List GroupWrite) (p : Part) : Res :=
  writeWith m 14 first rows.length p (judgeRows judgeGroup first rows)
    (fun rows => rankRefusal (overlay groupWith rows (first - 1) p.groups))
    (fun rows =>
      ({ p with groups := overlay groupWith rows (first - 1) p.groups }, [.load]))

/-- The tallies of the rows written are cleared (R18). -/
def clearTallies (first count : Nat) (p : Part) : Part :=
  let clear (row : Nat) (k : Port) (p : Part) : Part :=
    if within first (first + count - 1) row then p.tally k (fun _ => PortTallies.zero) else p
  clear 2 .two (clear 1 .one p)

/-- WRITE_ROWS of the port tallies (R18). -/
def writePortTallies (m : Sender) (first : Nat) (rows : List PortTallies) (p : Part) : Res :=
  writeWith m 6 first rows.length p (judgeRows judgeTallies first rows) noWholeTest
    (fun rows => (clearTallies first rows.length p, []))

/-! ### The live tables of WRITE_ROWS -/

/-- The table that a row of WRITE_ROWS belongs to (R187). -/
def liveTable : LiveRow → Nat
  | .link _ => 5
  | .time _ => 7
  | .point _ => 8
  | .sync _ => 11
  | .schedule _ => 12
  | .management _ => 15

/-- A row of WRITE_ROWS judged: one of another table's form is refused with VALUE (R185, R189). -/
def judgeLive (table row : Nat) (k : LiveRow) : Judged LiveRow :=
  let lift {α : Type} (f : α → LiveRow) (j : Judged α) : Judged LiveRow :=
    match j with
    | .ok (x, refs) => .ok (f x, refs)
    | .error r => .error r
  if liveTable k ≠ table then .error .value
  else
    match k with
    | .link a => .ok (.link a, [])
    | .time k => lift .time (judgeTime row k)
    | .point t => .ok (.point t, [])
    | .sync k => lift .sync (judgeSync row k)
    | .schedule k => lift .schedule (judgeSchedule row k)
    | .management k => lift .management (judgePeriod row k)

/-- A row of WRITE_ROWS is applied in its place (R8, R20, R31, R138, R156, R195). -/
def applyLive (row : Nat) (k : LiveRow) (p : Part) : Part :=
  match k with
  | .link a => { p with link := { p.link with addressing := a } }
  | .time k => p.setTime { p.time with settings := k }
  | .point t =>
    match Point.ofNumber row with
    | some pt => p.setPoint pt { p.point pt with testAccept := t }
    | none => p
  | .sync k => { p with syncSettings := overlay (fun _ r => r) [k] (row - 1) p.syncSettings }
  | .schedule k => p.setSchedule { p.schedule with settings := k }
  | .management k => p.setManagement { p.management with statusPeriod := k }

/-- Rows of WRITE_ROWS are applied in their places, from a row number on. -/
def applyLives : List LiveRow → Nat → Part → Part
  | [], _, p => p
  | k :: rest, row, p => applyLives rest (row + 1) (applyLive row k p)

/-- WRITE_ROWS of a live table that has no command of its own (R189). A new send lead can make an entry due (R156). -/
def writeRows (m : Sender) (table first : Nat) (rows : List LiveRow) (p : Part) : Res :=
  writeWith m table first rows.length p (judgeRows (judgeLive table) first rows) noWholeTest
    (fun rows => (applyLives rows first p, if table = 12 then [.handOver] else []))

end Sys2Proof.Machine
end

