-- ==== Sys2Proof/Machine/Manage.lean ====
section
/-! DEFINITION. The Management Unit: the requests (R185) other than writes, the Status frame (R195) and RESTART (R196). -/

namespace Sys2Proof.Machine

/-- A request is answered DONE, with its rows, after its effects. -/
def answered (m : Sender) (rows : List RowData) (r : Res) : Res := (r.1, r.2 ++ [.respond m .done rows])

/-- READ_ROWS (R188). -/
def readRows (m : Sender) (table first count : Nat) (p : Part) : Res :=
  match readRefusal table first count with
  | some r => refused m r p
  | none => answered m (p.readRows table first count) (p, [])

/-! ### START and HALT (R79–R81) -/

/-- What the configuration check asks of a source of a used kind (R79). -/
def Part.sourceItems (p : Part) (s : Src) : List CheckItem :=
  if p.used s then
    (if p.roleBound (.point (.line s)) then [] else [.sourcePoint s]) ++
      (if p.roleBound (.breaker (.incomer s)) then [] else [.incomer s]) ++
      (if p.kind s = .generator && !p.roleBound (.genctl s) then [.generatorController s] else [])
  else []

/-- The items of the configuration check that fail (R79). DESIGN CHOICE (log 38): the spec gives the returned rows no
order; they come source by source, then bus points, coupler, templates and candidate lists. -/
def Part.checkFailures (p : Part) : List CheckItem :=
  allSrcs.flatMap p.sourceItems ++
    (allBuses.filter (fun x => !p.roleBound (.point (.bus x)))).map .busPoint ++
    (if p.roleBound (.breaker .coupler) then [] else [.coupler]) ++
    ((List.finRange 24).filter (fun n => !p.templateRefers (p.template n))).map .template ++
    ((List.finRange 6).filter (fun i => !p.listRefers (p.candidates.get i))).map
      (fun i => .candidateList (listChannel i))

/-- START (R79, R80). -/
def requestStart (m : Sender) (p : Part) : Res :=
  if p.arbiter.mode = .auto then refused m .mode p
  else if !p.checkFailures.isEmpty then (p, [.respond m (.refused .state) (p.checkFailures.map .checkItem)])
  else answered m [] (beginAuto p, [.startBus .a, .startBus .b, .loadStart, .afterStart])

/-- HALT (R81). -/
def requestHalt (m : Sender) (p : Part) : Res :=
  if p.arbiter.mode = .halted then refused m .mode p
  else if p.arbiter.halt then answered m [] (p, [])
  else
    let q := { p with arbiter := { p.arbiter with halt := true } }
    match p.exec.state with
    | .idle => answered m [] (enterHalted q, [])
    | .running => answered m [] (q, if p.arbiter.abort = .none then [.abort .halt] else [])
    | .aborting => answered m [] (q, [])

/-! ### The channels (R86, R87, R92) -/

/-- TRANSFER raises OPERATOR and TEST raises TEST, with a requested template (R86). -/
def requestTemplate (c : Channel) (m : Sender) (template : Nat) (p : Part) : Res :=
  match indexOf 24 template with
  | none => refused m .value p
  | some n =>
    if (p.channel c).enable then
      answered m [] (p.setChannel c { p.channel c with requested := some n }, [.raise c])
    else (p, [.raise c, .respond m (.refused .state) []])

/-- CONFIRM (R92). -/
def requestConfirm (m : Sender) (channel : Nat) (p : Part) : Res :=
  match Channel.ofNumber channel with
  | none => refused m .row p
  | some c =>
    if (p.channel c).engaged = .held then answered m [] (p.engage c .no, [.judgeTake])
    else refused m .state p

/-- A channel record with SET_CHANNEL's three fields (R87). -/
def ChannelRecord.withSettings (r : ChannelRecord) (enable mask : Bool) (mode : CompletionMode) : ChannelRecord :=
  { r with
    enable := enable
    mask := mask
    mode := mode
    pending := r.pending && enable
    engaged := if r.engaged = .held ∧ mode = .selfRelease then .no else r.engaged }

/-- SET_CHANNEL (R87). -/
def requestSetChannel (m : Sender) (channel : Nat) (enable mask : Bool) (mode : CompletionMode) (p : Part) : Res :=
  match Channel.ofNumber channel with
  | none => refused m .row p
  | some c =>
    answered m [] (p.setChannel c ((p.channel c).withSettings enable mask mode), [.judgeTake, .judgePreempt])

/-! ### Conditions and faults (R192, R194) -/

/-- ACK_CONDITIONS (R192). -/
def requestAck (m : Sender) (flags : List (Option Flag)) (p : Part) : Res :=
  if flags.contains none then refused m .value p
  else
    let named := allFlags.filter (fun f => flags.contains (some f))
    let again := named.filter p.standing
    let q := named.foldl (fun q f => q.clearFlag f) p
    answered m [.setAgain again] (again.foldl (fun q f => q.raiseFlag f) q, [])

/-- CLEAR_FAULTS (R194). -/
def requestClearFaults (m : Sender) (p : Part) : Res :=
  answered m [] (p.setManagement { p.management with faults := FaultLog.init }, [])

/-! ### OPERATE (R186) -/

/-- What OPERATE may ask of a breaker (R186). -/
def operable : Option Action → Option Action
  | some .opn => some .opn
  | some .close => some .close
  | _ => none

/-- OPERATE (R186). -/
def requestOperate (m : Sender) (breaker : Nat) (action : Option Action) (p : Part) : Res :=
  if p.arbiter.mode = .auto then refused m .mode p
  else
    match Breaker.ofNumber breaker, operable action with
    | none, _ => refused m .row p
    | some _, none => refused m .value p
    | some b, some a =>
      match p.insertEntry (.breaker b) a .management none with
      | .ok (p, num) => (p, [.handOver, .respondOperate m num])
      | .error _ => (p, [.respond m (.refused .state) [.scheduleFull]])

/-- OPERATE is answered with its entry's state at the end of the event (R186). -/
def respondOperate (m : Sender) (num : CmdNum) (p : Part) : Res :=
  let row : RowData :=
    match p.entry num with
    | some e => .operated num e.sent none
    | none =>
      match p.management.operates.reverse.find? (fun r => r.num == num) with
      | some r => .operated num r.sendStamp.isSome (some r.outcome)
      | none => .operated num false none
  (p, [.respond m .done [row]])

/-! ### Sources, buses, breakers and groups (R43, R64, R70, R184) -/

/-- SOURCE_SERVICE out (R43). -/
def requestServiceOut (m : Sender) (source : Nat) (p : Part) : Res :=
  match srcOfNumber source with
  | none => refused m .row p
  | some s =>
    if !(p.fedDomain s).isEmpty then refused m .inUse p
    else if (p.source s).state = .out then answered m [] (p, [])
    else answered m [] (p.setSource s ((p.source s).leave .out), [.sourceChanged s])

/-- SOURCE_SERVICE in (R43). -/
def requestServiceIn (m : Sender) (source : Nat) (p : Part) : Res :=
  match srcOfNumber source with
  | none => refused m .row p
  | some s =>
    if p.kind s = .unused then refused m .state p
    else if (p.source s).state = .out then
      let state : SourceState := if (p.point (.line s)).seen then .dead else .blind
      answered m [] (p.setSource s { p.source s with state := state }, [.sourceChanged s])
    else answered m [] (p, [])

/-- CLEAR_LOCKOUT (R70). -/
def requestClearLockout (m : Sender) (bus : Option Bus) (p : Part) : Res :=
  match bus with
  | none => refused m .row p
  | some x =>
    if !(p.bus x).lockout then answered m [] (p, [])
    else if allBreakers.any (fun b => p.onBus b x && (p.breaker b).trip == .busbar) then refused m .state p
    else answered m [] ((p.setBus x { p.bus x with lockout := false }).judgeReturn x, [])

/-- RESET_BREAKER (R64). -/
def requestResetBreaker (m : Sender) (breaker : Nat) (p : Part) : Res :=
  match Breaker.ofNumber breaker with
  | none => refused m .row p
  | some b =>
    if (p.breaker b).failed then
      answered m [] (p.setBreaker b { p.breaker b with failed := false }, [.load])
    else answered m [] (p, [])

/-- RESTORE_GROUP (R184). -/
def requestRestoreGroup (m : Sender) (group : Nat) (p : Part) : Res :=
  match grpOfNumber group with
  | none => refused m .row p
  | some g =>
    let y := p.groupBus g
    if !(p.group g).mark then refused m .state p
    else if !(p.channel (.restore y)).enable then
      (p, [.raise (.restore y), .respond m (.refused .state) []])
    else answered m [] (p.setStage y { p.stage y with requested := some g }, [.raise (.restore y)])

/-- The part code (R185). -/
def partCode : Nat := 416

/-- The revision number of the part this manual describes (R185). -/
def partRevision : Nat := 1

/-- IDENTIFY (R185). -/
def requestIdentify (m : Sender) (p : Part) : Res :=
  answered m [.identity partCode partRevision p.link.straps] (p, [])

/-! ### RESTART (R196) -/

/-- The Link Port's RESTART values: the Command and Status slots are emptied (R7). -/
def restartLink (l : LinkState) : LinkState :=
  let port (k : PortState) : PortState := { k with command := none, status := none }
  { l with ports := ⟨port l.ports.one, port l.ports.two⟩ }

/-- A source record's RESTART values (R42, R51–R53). -/
def restartSource (kind : SourceKind) (q : SourceRecord) : SourceRecord :=
  { q.leave (if kind = .unused then .out else .dead) with gen := GenRecord.zero }

/-- A breaker record's RESTART values (R57). -/
def restartBreaker (r : BreakerRecord) : BreakerRecord :=
  { BreakerRecord.init with opCount := r.opCount, uncommanded := r.uncommanded, interlock := r.interlock }

/-- A bus record's RESTART values (R67, R68, R73). -/
def restartBus (r : BusRecord) : BusRecord := { BusRecord.init with lockout := r.lockout }

/-- A point record's RESTART values (R30, R31). -/
def restartPoint (q : PointRecord) : PointRecord :=
  { q with seen := false, latest := none, latestValid := none, lastStamp := none, invalidRun := 0 }

/-- A channel record's RESTART values (R84). -/
def restartChannel (r : ChannelRecord) : ChannelRecord := { r with pending := false, engaged := .no }

/-- The Command Schedule's RESTART values (R155, R156, R163). -/
def restartSchedule (k : Schedule) : Schedule := { k with entries := [], next := 0, held := [] }

/-- The Management Unit's RESTART values (R186, R191, R194, R195). -/
def restartManagement (straps : BitVec 8) (m : Management) : Management :=
  { m with
    conditions := mapAll (fun c => { c with set := false, lastSet := none }) m.conditions
    statusTimer := statusTimerAt straps m.statusPeriod }

/-- A shed mark is kept where its feeder's position was OPEN (R170). No feeder counts as closed before it reports (R171). -/
def restartGroup (p : Part) (g : Grp) (r : GroupRow) : GroupRow :=
  { r with mark := r.mark && (p.breaker (.feeder g)).position == .opn, wasClosed := false }

/-- Every block takes its RESTART values (R196, step 2). -/
def Part.restarted (p : Part) : Part :=
  { p with
    link := restartLink p.link
    units := Vector.replicate 32 UnitRecord.init
    time := TimeBase.init p.time.settings
    points := mapAll restartPoint p.points
    sources := mapIndexed (fun s q => restartSource (p.kind s) q) p.sources
    breakers := mapAll restartBreaker p.breakers
    buses := ⟨restartBus p.buses.a, restartBus p.buses.b⟩
    fedDomains := Vector.replicate 4 ⟨false, false⟩
    arbiter := ArbiterRecord.init
    channels := mapAll restartChannel p.channels
    selection := none
    exec := ExecRecord.init p.exec.serial
    currentPlan := none
    previousPlan := none
    guard := GuardRecord.init
    attempt := none
    syncTimer := .stopped
    schedule := restartSchedule p.schedule
    groups := mapIndexed (restartGroup p) p.groups
    stages := ⟨LoadStage.init, LoadStage.init⟩
    management := restartManagement p.link.straps p.management }

/-- Steps 2 to 4 of an accepted RESTART (R196). -/
def restart (p : Part) : Res := (allFlags.foldl (fun q f => q.setIfStanding f) p.restarted, [])

/-- RESTART (R196). -/
def requestRestart (m : Sender) (p : Part) : Res :=
  if p.guardRuns then refused m .guard p else (p, [.respond m .done [], .restart])

/-! ### Taking a request (R185) -/

/-- A request of a MANAGER station is judged and carried out (R185). -/
def carryOut (m : Sender) (r : Request) (p : Part) : Res :=
  match r with
  | .readRows table first count => readRows m table first count p
  | .writeRows table first rows => writeRows m table first rows p
  | .writeUnitMap first rows => writeUnitMap m first rows p
  | .writeTopology first rows => writeTopology m first rows p
  | .writeTemplates first rows => writeTemplates m first rows p
  | .writeCandidateLists first rows => writeCandidateLists m first rows p
  | .writeSourceSettings first rows => writeSourceSettings m first rows p
  | .writeBreakerSettings first rows => writeBreakerSettings m first rows p
  | .writeBusSettings first rows => writeBusSettings m first rows p
  | .writeGroupTable first rows => writeGroupTable m first rows p
  | .clearPortTallies first rows => writePortTallies m first rows p
  | .start => requestStart m p
  | .halt => requestHalt m p
  | .restart => requestRestart m p
  | .transfer template => requestTemplate .operator m template p
  | .test template => requestTemplate .test m template p
  | .confirm channel => requestConfirm m channel p
  | .setChannel channel enable mask mode => requestSetChannel m channel enable mask mode p
  | .ackConditions flags => requestAck m flags p
  | .clearFaults => requestClearFaults m p
  | .operate breaker action => requestOperate m breaker action p
  | .sourceServiceOut source => requestServiceOut m source p
  | .sourceServiceIn source => requestServiceIn m source p
  | .clearLockout bus => requestClearLockout m bus p
  | .resetBreaker breaker => requestResetBreaker m breaker p
  | .restoreGroup group => requestRestoreGroup m group p
  | .identify => requestIdentify m p
  | .unknown => refused m .value p

/-- A request of a MANAGER station is taken: the request tally counts it (R185). DESIGN CHOICE (log 49): the spec gives the
counting no place within the event; it comes first, so that a READ_ROWS of table 15 shows itself counted. -/
def takeRequest (m : Sender) (r : Request) (p : Part) : Res :=
  carryOut m r (p.setManagement { p.management with requests := tick16 p.management.requests })

/-- A REQUEST of a station with another role is only counted (R185). -/
def takeForeign (p : Part) : Res :=
  (p.setManagement { p.management with foreign := tick16 p.management.foreign }, [])

/-! ### The Status frame (R96, R195) -/

/-- The engaged channel as a Status frame shows it (R96). -/
def Part.statusEngaged (p : Part) : Option (Channel × Engaged × Option ChannelOutcome) :=
  p.engagedChannel.map (fun c => (c, (p.channel c).engaged, (p.channel c).outcome))

/-- The source states of a Status frame, with a generator's ready field (R195). -/
def Part.statusSource (p : Part) (s : Src) : SourceState × Option Bool :=
  ((p.source s).state, if p.kind s = .generator then some (p.source s).gen.ready else none)

/-- A bus as a Status frame shows it (R195). -/
def statusBus (r : BusRecord) : LiveState × FeedState × Bool := (r.live, r.feed, r.lockout)

/-- The content of a Status frame made now (R195). -/
def Part.status (p : Part) : StatusContent :=
  { mode := p.arbiter.mode
    halt := p.arbiter.halt
    abort := p.arbiter.abort
    engaged := p.statusEngaged
    pending := Channel.descending.filter (fun c => (p.channel c).pending)
    exec := p.exec.state
    plan := p.exec.plan.map (fun pl => (pl.template, pl.nameTag))
    step := p.currentStep.map (fun s => (p.exec.step, s))
    guard := p.guard.state
    sources := allSrcs.map p.statusSource
    breakers := allBreakers.map (fun b => ((p.breaker b).position, (p.breaker b).failed))
    buses := ⟨statusBus p.buses.a, statusBus p.buses.b⟩
    entries := p.schedule.entries.length
    time := p.time.state
    conditions := allFlags.filter (fun f => (p.condition f).set)
    faultSlots := p.management.faults.first.toList.length + p.management.faults.second.toList.length
    faultsDropped := 0 < p.management.faults.dropped }

/-- The status timer expires: a Status frame to the broadcast address is made for both ports, and the timer starts again
(R8, R195). -/
def statusExpiry (p : Part) : Res :=
  if p.management.statusTimer.due then
    let f : StatusFrame := ⟨p.ownHeader .broadcast, p.status⟩
    let q := placeStatus f .two (placeStatus f .one p.nextSeq)
    (q.setManagement { q.management with statusTimer := .start (ms q.management.statusPeriod) }, bothEgress)
  else (p, [])

end Sys2Proof.Machine
end

