-- ==== Sys2Proof/Machine/Time.lean ====
section
/-! DEFINITION. The Time Base: TIME frames (R21, R22, R24), slews (R23), steps (R25), holdover (R26), and the counting
of every timer with station time (R27). -/

namespace Sys2Proof.Machine

/-- The largest station time, 2^48 − 1 (R19, R21). -/
def lastInstant : Nat := 281474976710655

/-- Every running timer of the part counts `n` µs of station time (R27). -/
def Part.countTimers (p : Part) (n : Nat) : Part :=
  let bus (r : BusRecord) : BusRecord :=
    { r with
      deadConfirm := r.deadConfirm.count n
      returnTimer := r.returnTimer.count n
      unplanned := r.unplanned.count n }
  let stage (r : LoadStage) : LoadStage :=
    { r with
      freqTimer := r.freqTimer.count n
      capTimer := r.capTimer.count n
      settle := r.settle.count n
      stagger := r.stagger.count n }
  { p with
    units := mapAll (fun u => { u with silence := u.silence.count n }) p.units
    time := { p.time with holdover := p.time.holdover.count n }
    sources := mapAll (fun r => { r with pickup := r.pickup.count n }) p.sources
    buses := ⟨bus p.buses.a, bus p.buses.b⟩
    exec := { p.exec with timer := p.exec.timer.count n }
    guard := { p.guard with timer := p.guard.timer.count n }
    syncTimer := p.syncTimer.count n
    schedule :=
      { p.schedule with entries := p.schedule.entries.map (fun e => { e with deadline := e.deadline.count n }) }
    stages := ⟨stage p.stages.a, stage p.stages.b⟩
    management := { p.management with statusTimer := p.management.statusTimer.count n } }

/-- Station time goes up by 1 µs, and every running timer counts it (R19, R27). -/
def Part.count (p : Part) : Part := ({ p with time := { p.time with now := p.time.now + 1 } }).countTimers 1

/-- The part is quiet: the schedule holds no entry and the executor is IDLE (R24). -/
def Part.quiet (p : Part) : Bool := p.schedule.entries.isEmpty && p.exec.state == .idle

/-! ### Corrections (R23–R25) -/

/-- A slew by the error `e` begins: the correction is `e` brought within the slew limit, spread over the span since the
previous TIME frame, bounded to 100 ms–10 s. What was unapplied of the previous slew is discarded, a count of the clock
not yet withheld with it (R23, log 22). -/
def Part.slew (p : Part) (e : Int) : Part :=
  let t := p.time
  let limit : Int := t.settings.slewLimit
  let c : Int := max (-limit) (min limit e)
  let span := t.now - t.lastFrame.getD t.now
  { p with
    freeCount := p.freeCount + 1
    time :=
      { t with
        correction := c
        slewTotal := c.natAbs
        slewInterval := intoRange 100000 10000000 span
        slewElapsed := 0
        slewSeed := p.freeCount
        withhold := 0
        lastFrame := some t.now } }

/-- Station time is stepped to the target; running timers keep what they have counted, and entries that the new count
makes due are handed over (R25, R161). -/
def stepTime (target : Nat) (p : Part) : Res :=
  let t := p.time
  ({ p with
     time :=
      { t with
        now := target
        lastStep := some ((target : Int) - (t.now : Int))
        stepTally := tick16 t.stepTally
        correction := 0
        slewTotal := 0
        withhold := 0
        stepDeferred := false
        lastFrame := some target } }, [.handOver])

/-- A TIME frame in LOCKED (R23, R24). TIME_STEP_DEFERRED is set when step deferred becomes yes. -/
def timeLocked (target : Nat) (e : Int) (p : Part) : Res :=
  if e.natAbs ≤ p.time.settings.stepThreshold then
    let p := p.slew e
    ({ p with time := { p.time with stepDeferred := false } }, [])
  else if p.quiet then stepTime target p
  else
    let before := p.time.stepDeferred
    let p := p.slew e
    let p := { p with time := { p.time with stepDeferred := true } }
    (if before then p else p.raiseFlag .timeStepDeferred, [])

/-- A TIME frame is taken (R21): a target beyond 48 bits is only counted; else the rule of the time state applies. -/
def timeFrame (master : Nat) (p : Part) : Res :=
  let t := p.time
  let target := master + t.settings.transit
  if lastInstant < target then ({ p with time := { t with rangeTally := tick16 t.rangeTally } }, [])
  else
    let e : Int := (target : Int) - (t.now : Int)
    let p := { p with time := { t with timeTally := tick16 t.timeTally, lastError := some e } }
    match t.state with
    | .unsynced => stepTime target { p with time := { p.time with state := .locking } }
    | .locking =>
      if e.natAbs ≤ t.settings.lockBand then
        let p := p.slew e
        ({ p with time := { p.time with state := .locked, everLocked := true } }, [])
      else stepTime target p
    | .locked => timeLocked target e p
    | .holdover => timeLocked target e { p with time := { p.time with state := .locked, holdover := .stopped } }

/-! ### The master lost and the holdover timer (R26) -/

/-- The TIMEMASTER unit enters LOST or is unbound (R26). -/
def masterGone (p : Part) : Res :=
  let t := p.time
  match t.state with
  | .locked =>
    ({ p with time := { t with state := .holdover, holdover := .start (seconds t.settings.holdover) } }, [])
  | .locking => ({ p with time := { t with state := .unsynced, stepDeferred := false } }, [])
  | .unsynced | .holdover => (p, [])

/-- The holdover timer expires: the state becomes UNSYNCED, TIME_UNSYNCED is set, and time quality becomes POOR (R26,
R28). -/
def holdoverExpiry (p : Part) : Res :=
  let t := p.time
  if t.holdover.due then
    let p := { p with time := { t with holdover := .stopped } }
    if t.state = .holdover then
      let p := { p with time := { p.time with state := .unsynced, stepDeferred := false } }
      (p.raiseFlag .timeUnsynced, [.timeQualityPoor])
    else (p, [])
  else (p, [])

/-! ### The instants of a slew (R23) -/

/-- Whether the next instant of the slew in progress is reached. The instants are evenly spaced over the interval;
where the first lies is a free value (log 3). -/
def TimeBase.slewDue (t : TimeBase) : Bool :=
  let applied := t.slewTotal - t.correction.natAbs
  t.correction != 0 &&
    applied * t.slewInterval + Config.slewPhase t.slewSeed % max 1 t.slewInterval ≤ t.slewElapsed * t.slewTotal

/-- An instant of the slew: 1 µs is added to station time, or one count of the clock is withheld (R23). A count added
can make an entry due (R161). -/
def slewInstant (p : Part) : Res :=
  let t := p.time
  if t.slewDue then
    if 0 < t.correction then
      (({ p with time := { t with correction := t.correction - 1 } }).count, [.handOver])
    else ({ p with time := { t with correction := t.correction + 1, withhold := t.withhold + 1 } }, [])
  else (p, [])

end Sys2Proof.Machine
end

