-- ==== Sys2Proof/Machine/Event.lean ====
section
/-! DEFINITION. An event of the part: its hand-offs, each worked through whole with everything it hands off in turn
before the next (00_scope, Events and order; 95), and the event a command begins. -/

namespace Sys2Proof.Machine

/-- The owner of a role is told that its unit entered LOST or was unbound (R17). -/
def unitGone (role : Role) (p : Part) : Res :=
  match role with
  | .point pt => (p, [.pointBlind pt])
  | .breaker b => breakerGone b p
  | .genctl s => genGone s p
  | .timeMaster => masterGone p
  | .manager _ => (p, [])
  | .empty => (p, [])

/-- What a hand-off does. -/
def runTask (t : Task) (p : Part) : Res :=
  match t with
  | .frame k ok bytes => receive k ok bytes p
  | .announce k f => announce k f p
  | .reading pt b => takeReading pt b p
  | .stateReport b r => takeReport b r p
  | .genstat s b => takeGenstat s b p
  | .timeFrame master => timeFrame master p
  | .request m r => takeRequest m r p
  | .foreign => takeForeign p
  | .portUp k => portUp k p
  | .portDown k => portDown k p
  | .transmitEnd k => transmitEnd k p
  | .silenceExpiry r => silenceExpiry r p
  | .holdoverExpiry => holdoverExpiry p
  | .slewInstant => slewInstant p
  | .pickupExpiry s => pickupExpiry s p
  | .unplannedExpiry x => unplannedExpiry x p
  | .deadConfirmExpiry x => deadConfirmExpiry x p
  | .returnExpiry x => returnExpiry x p
  | .waitdeadTimeout => waitdeadTimeout p
  | .dwellExpiry => dwellExpiry p
  | .waithealthyTimeout => waithealthyTimeout p
  | .guardExpiry => guardExpiry p
  | .syncLimitExpiry => syncLimitExpiry p
  | .entryDue num => entryDue num p
  | .deadlineExpiry num => deadlineExpiry num p
  | .frequencyExpiry x => frequencyExpiry x p
  | .capacityExpiry x => capacityExpiry x p
  | .settleExpiry x => settleExpiry x p
  | .staggerExpiry x => staggerExpiry x p
  | .statusExpiry => statusExpiry p
  | .checked k h b => mapFrame k h b p
  | .egress k => egress k p
  | .unitGone role => unitGone role p
  | .unitLost role => unitLost role p
  | .pointBlind pt => pointBlind pt p
  | .sourceReading s r => sourceReading s r p
  | .sourceChanged s => sourceChanged s p
  | .healthCheck s => healthCheck s p
  | .genChanged s replaced loadChanged => genChanged s replaced loadChanged p
  | .runCheck s => runCheck s p
  | .liveState x => liveState x p
  | .feedTold => feedTold p
  | .busFault x b => busFault x b p
  | .raiseLost x => raiseLost x p
  | .startBus x => startBus x p
  | .raise c => raise c p
  | .judgeTake => judgeTake p
  | .judgePreempt => judgePreempt p
  | .afterStart => afterStart p
  | .select c => select c p
  | .planEnded o => planEnded o p
  | .endEngagement c => endEngagement c p
  | .arbiterIdle => arbiterIdle p
  | .abort cause => abort cause p
  | .beginStep serial step => beginStep serial step p
  | .nextStep serial step => nextStep serial step p
  | .failStep serial step reason => failStep serial step reason p
  | .shedNext serial step groups => shedNext serial step groups p
  | .stepEntry num owner o => stepEntry num owner o p
  | .windDown => windDown p
  | .waitDeadCheck pt => waitDeadCheck pt p
  | .guardFeed => guardFeed p
  | .guardTripped => guardTripped p
  | .guardFailPlan => guardFailPlan p
  | .recordFault r => (p.recordFault r, [])
  | .evaluate pt => evaluate pt p
  | .timeQualityPoor => timeQualityPoor p
  | .attemptEntry num o => attemptEntry num o p
  | .attemptDone => attemptDone p
  | .handOver => handOver p
  | .reportEntry e o => reportEntry e o p
  | .breakerEntries b => breakerEntries b p
  | .judgeBreakerEntry num => judgeBreakerEntry num p
  | .sourceEntries s => sourceEntries s p
  | .judgeSourceEntry num => judgeSourceEntry num p
  | .load => load p
  | .shedStage x => shedStage x p
  | .shedRaised x => shedRaised x p
  | .capacityShort => capacityShort p
  | .restoreStage x => restoreStage x p
  | .loadOutcome c => loadOutcome c p
  | .restoreOutcome c => restoreOutcome c p
  | .loadStart => loadStart p
  | .shedMark g => shedMark g p
  | .respond m a rows => respond m a rows p
  | .respondOperate m num => respondOperate m num p
  | .restart => restart p

/-- Works through hand-offs, at most so many of them: those that one makes stand before those that were waiting. What
is left is answered beside the part. -/
def drain : Nat → List Task → Part → Res
  | 0, ts, p => (p, ts)
  | _ + 1, [], p => (p, [])
  | n + 1, t :: ts, p => drain n ((runTask t p).2 ++ ts) (runTask t p).1

/-- The state after an event is worked through. What an earlier event left to do is done first, and what this one
leaves stays to be done (log 2). -/
def State.drained (s : State) (ts : List Task) : State :=
  let r := drain Config.eventBound (s.work ++ ts) s.part
  { s with part := r.1, work := r.2 }

/-- The event of a command that is no frame for a numbered part: it begins with one hand-off. -/
def State.event (s : State) (t : Task) : State := s.drained [t]

/-- The event of a frame, an entry or a timer that only a numbered part has (R1). -/
def State.stationEvent (s : State) (t : Task) : State := if s.part.numbered then s.event t else s

end Sys2Proof.Machine
end

