-- ==== Sys2Proof/Machine/Clock.lean ====
section
/-! DEFINITION. What the block does while no command waits (log 7): it goes on with an event that is not finished, or
begins an expiry that is due, or counts 1 µs of its clock (R19, R23, R27). -/

namespace Sys2Proof.Machine

/-- The commands of a list whose conditions hold. -/
def holding (l : List (Bool × Instr)) : List Instr := (l.filter (·.1)).map (·.2)

/-- The step timer's expiry, by the kind of the current step (R122, R123, R126). -/
def Part.stepExpiry (p : Part) : List Instr :=
  if p.timerExpires then
    match p.currentStep with
    | some (.waitDead _ _ _) => [.waitdeadTimeout]
    | some (.dwell _) => [.dwellExpiry]
    | some (.waitHealthy _ _) => [.waithealthyTimeout]
    | _ => []
  else []

/-- The expiries of a bus that are due now (R67, R72, R73, R179, R181, R182). -/
def Part.busExpiries (p : Part) (x : Bus) : List Instr :=
  holding
    [((p.bus x).unplanned.due, .unplannedParallelExpiry x), ((p.bus x).deadConfirm.due, .deadConfirmExpiry x),
      ((p.bus x).returnTimer.due, .returnTimerExpiry x), ((p.stage x).freqTimer.due, .frequencyStageExpiry x),
      ((p.stage x).capTimer.due, .capacityStageExpiry x), ((p.stage x).settle.due, .settleExpiry x),
      ((p.stage x).stagger.due, .staggerExpiry x)]

/-- What is due now of an entry of the schedule: its hand-over, or its deadline (R161, R167). -/
def Part.entryExpiries (p : Part) (e : Entry) : List Instr :=
  holding
    [(!e.sent && e.dueSince.isNone && p.isDue e, .entryDue e.num), (e.sent && e.deadline.due, .operateDeadlineExpiry e.num)]

/-- The commands that station time brings now (R27). -/
def Part.expiries (p : Part) : List Instr :=
  (allRows.filter (fun r => (p.unit r).silence.due)).map .silenceExpiry ++
    holding
      [(p.time.holdover.due, .holdoverExpiry), (p.time.slewDue, .slewInstant), (p.syncTimer.due, .syncTimeLimitExpiry),
        (p.guard.state == .running && p.guard.timer.due, .guardExpiry),
        (p.management.statusTimer.due, .statusTimerExpiry)] ++
    (allSrcs.filter (fun s => (p.source s).pickup.due)).map .pickupExpiry ++ p.stepExpiry ++
    allBuses.flatMap p.busExpiries ++ p.schedule.entries.flatMap p.entryExpiries

/-- The clock counts 1 µs: station time goes up by 1, unless that count is withheld by a slew (R19, R23). -/
def Part.tick (p : Part) : Part :=
  let t := p.time
  let t := if t.correction = 0 then t else { t with slewElapsed := t.slewElapsed + 1 }
  if t.withhold = 0 then (p.setTime t).count else p.setTime { t with withhold := t.withhold - 1 }

/-- Which of several expiries of one microsecond is taken next is a free value (log 4). -/
def takeExpiry (l : List Instr) (free : Nat) : Option Instr := l[Config.tieOrder free % max 1 l.length]?

/-- The block while no command waits. -/
def State.idle (s : State) : State :=
  if s.work ≠ [] then s.drained []
  else
    match s.part.expiries with
    | [] => { s with part := s.part.tick }
    | [c] => { s with pending := [c] }
    | l =>
      { s with
        part := { s.part with freeCount := s.part.freeCount + 1 }
        pending := (takeExpiry l s.part.freeCount).toList }

end Sys2Proof.Machine
end

