-- ==== Sys2Proof/Machine/LinkCommands.lean ====
section
/-! DEFINITION. The meanings of POWER_ON and of the commands that the process link brings: frames received, frames passed
on to the owners, and the ports (R1–R6, R11, R12; R32–R36, R53, R56–R61, R21–R25, R185). -/

namespace Sys2Proof.Machine

/-- What a command answers. -/
abbrev Out := Host.Outcome State Fault Refusal

/-- POWER_ON: every piece of state takes its POWER-ON value, and the straps are read (R1). The count of the free values
already used goes on, and nothing of an earlier event is left to do. -/
def execPowerOn (straps : BitVec 8) (s : State) : Out :=
  .next { s with part := { Part.powerOn straps with freeCount := s.part.freeCount }, work := [] }

/-- A frame is received whole on a port (R2). -/
def execFrameReceived (port : Port) (checkOk : Bool) (bytes : List Byte) (s : State) : Out :=
  .next (s.event (.frame port checkOk bytes))

/-- A READING is passed on for a point (R32–R36). -/
def execReading (point : Point) (body : RawReading) (s : State) : Out :=
  .next (s.stationEvent (.reading point body))

/-- A STATE frame is passed on for a breaker (R56–R61). -/
def execStateReport (breaker : Breaker) (body : BreakerReport) (s : State) : Out :=
  .next (s.stationEvent (.stateReport breaker body))

/-- A GENSTAT frame is passed on for a source (R53). -/
def execGenstat (source : Src) (body : GenReport) (s : State) : Out :=
  .next (s.stationEvent (.genstat source body))

/-- A TIME frame of the time master is passed on (R21–R25). -/
def execTimeFrame (master : Stamp) (s : State) : Out := .next (s.stationEvent (.timeFrame master.toNat))

/-- An ANNOUNCE that passed the layout check (R12). -/
def execAnnounce (port : Port) (frame : AnnounceFrame) (s : State) : Out :=
  .next (s.stationEvent (.announce port frame))

/-- A REQUEST from a station with a role other than MANAGER (R185). -/
def execForeignRequest (s : State) : Out := .next (s.stationEvent .foreign)

/-- A port comes UP (R5). -/
def execPortUp (port : Port) (s : State) : Out := .next (s.event (.portUp port))

/-- A port goes DOWN (R5). -/
def execPortDown (port : Port) (s : State) : Out := .next (s.event (.portDown port))

/-- The frame being sent on a port ends (R6). -/
def execTransmitEnd (port : Port) (s : State) : Out := .next (s.event (.transmitEnd port))

end Sys2Proof.Machine
end

