-- ==== Sys2Proof/Machine/RequestCommands.lean ====
section
/-! DEFINITION. The meanings of the management requests: the request of a MANAGER station is taken by the Management Unit,
counted and carried out (R185). -/

namespace Sys2Proof.Machine

/-- A request reaches the Management Unit (R185). -/
def State.requestEvent (s : State) (m : Sender) (r : Request) : State := s.stationEvent (.request m r)

/-- READ_ROWS (R188). -/
def execReadRows (sender : Sender) (table first count : Nat) (s : State) : Out :=
  .next (s.requestEvent sender (.readRows table first count))

/-- WRITE_ROWS of a live table that has no command of its own (R189; R8, R20, R31, R138, R156, R195). -/
def execWriteRows (sender : Sender) (table first : Nat) (rows : List LiveRow) (s : State) : Out :=
  .next (s.requestEvent sender (.writeRows table first rows))

/-- WRITE_ROWS of the unit map (R10). -/
def execWriteUnitMap (sender : Sender) (first : Nat) (rows : List UnitMapRow) (s : State) : Out :=
  .next (s.requestEvent sender (.writeUnitMap first rows))

/-- WRITE_ROWS of the topology (R65). -/
def execWriteTopology (sender : Sender) (first : Nat) (rows : List TopologyRow) (s : State) : Out :=
  .next (s.requestEvent sender (.writeTopology first rows))

/-- WRITE_ROWS of the templates (R99). -/
def execWriteTemplates (sender : Sender) (first : Nat) (rows : List TemplateWrite) (s : State) : Out :=
  .next (s.requestEvent sender (.writeTemplates first rows))

/-- WRITE_ROWS of the candidate lists (R100). -/
def execWriteCandidateLists (sender : Sender) (first : Nat) (rows : List (List Nat)) (s : State) : Out :=
  .next (s.requestEvent sender (.writeCandidateLists first rows))

/-- WRITE_ROWS of the source settings (R39). -/
def execWriteSourceSettings (sender : Sender) (first : Nat) (rows : List SourceSettings) (s : State) : Out :=
  .next (s.requestEvent sender (.writeSourceSettings first rows))

/-- WRITE_ROWS of the breaker settings (R62, R63). -/
def execWriteBreakerSettings (sender : Sender) (first : Nat) (rows : List BreakerSettings) (s : State) : Out :=
  .next (s.requestEvent sender (.writeBreakerSettings first rows))

/-- WRITE_ROWS of the bus settings (R174). -/
def execWriteBusSettings (sender : Sender) (first : Nat) (rows : List BusSettings) (s : State) : Out :=
  .next (s.requestEvent sender (.writeBusSettings first rows))

/-- WRITE_ROWS of the group table (R169). -/
def execWriteGroupTable (sender : Sender) (first : Nat) (rows : List GroupWrite) (s : State) : Out :=
  .next (s.requestEvent sender (.writeGroupTable first rows))

/-- WRITE_ROWS of the port tallies (R18). -/
def execClearPortTallies (sender : Sender) (first : Nat) (rows : List PortTallies) (s : State) : Out :=
  .next (s.requestEvent sender (.clearPortTallies first rows))

/-- START (R79, R80). -/
def execStart (sender : Sender) (s : State) : Out := .next (s.requestEvent sender .start)

/-- HALT (R81, R82). -/
def execHalt (sender : Sender) (s : State) : Out := .next (s.requestEvent sender .halt)

/-- RESTART (R196). -/
def execRestart (sender : Sender) (s : State) : Out := .next (s.requestEvent sender .restart)

/-- TRANSFER (R86). -/
def execTransfer (sender : Sender) (template : Nat) (s : State) : Out :=
  .next (s.requestEvent sender (.transfer template))

/-- TEST (R86). -/
def execTest (sender : Sender) (template : Nat) (s : State) : Out :=
  .next (s.requestEvent sender (.test template))

/-- CONFIRM (R92). -/
def execConfirm (sender : Sender) (channel : Nat) (s : State) : Out :=
  .next (s.requestEvent sender (.confirm channel))

/-- SET_CHANNEL (R87). -/
def execSetChannel (sender : Sender) (channel : Nat) (enable mask : Bool) (mode : CompletionMode) (s : State) : Out :=
  .next (s.requestEvent sender (.setChannel channel enable mask mode))

/-- ACK_CONDITIONS (R192). -/
def execAckConditions (sender : Sender) (flags : List (Option Flag)) (s : State) : Out :=
  .next (s.requestEvent sender (.ackConditions flags))

/-- CLEAR_FAULTS (R194). -/
def execClearFaults (sender : Sender) (s : State) : Out := .next (s.requestEvent sender .clearFaults)

/-- OPERATE (R186). -/
def execOperate (sender : Sender) (breaker : Nat) (action : Option Action) (s : State) : Out :=
  .next (s.requestEvent sender (.operate breaker action))

/-- SOURCE_SERVICE out (R43). -/
def execSourceServiceOut (sender : Sender) (source : Nat) (s : State) : Out :=
  .next (s.requestEvent sender (.sourceServiceOut source))

/-- SOURCE_SERVICE in (R43). -/
def execSourceServiceIn (sender : Sender) (source : Nat) (s : State) : Out :=
  .next (s.requestEvent sender (.sourceServiceIn source))

/-- CLEAR_LOCKOUT (R70). -/
def execClearLockout (sender : Sender) (bus : Option Bus) (s : State) : Out :=
  .next (s.requestEvent sender (.clearLockout bus))

/-- RESET_BREAKER (R64). -/
def execResetBreaker (sender : Sender) (breaker : Nat) (s : State) : Out :=
  .next (s.requestEvent sender (.resetBreaker breaker))

/-- RESTORE_GROUP (R184). -/
def execRestoreGroup (sender : Sender) (group : Nat) (s : State) : Out :=
  .next (s.requestEvent sender (.restoreGroup group))

/-- IDENTIFY (R185). -/
def execIdentify (sender : Sender) (s : State) : Out := .next (s.requestEvent sender .identify)

/-- A REQUEST with a name outside the list, or with arguments missing or of the wrong form: refused with VALUE
(R185). -/
def execUnknownRequest (sender : Sender) (s : State) : Out := .next (s.requestEvent sender .unknown)

end Sys2Proof.Machine
end

