-- ==== Sys2Proof/Machine/TimerCommands.lean ====
section
/-! DEFINITION. The meanings of the expiries and of the other commands that station time brings. One whose timer does not
run, or has not counted its duration, does nothing (R27, log 7). -/

namespace Sys2Proof.Machine

/-- A unit's silence timer expires (R15, R16). -/
def execSilenceExpiry (row : Fin 32) (s : State) : Out := .next (s.event (.silenceExpiry row))

/-- The holdover timer expires (R26). -/
def execHoldoverExpiry (s : State) : Out := .next (s.event .holdoverExpiry)

/-- One of the instants of a slew (R23). -/
def execSlewInstant (s : State) : Out := .next (s.event .slewInstant)

/-- A pickup timer expires (R46). -/
def execPickupExpiry (source : Src) (s : State) : Out := .next (s.event (.pickupExpiry source))

/-- An unplanned-parallel timer expires (R67). -/
def execUnplannedParallelExpiry (bus : Bus) (s : State) : Out := .next (s.event (.unplannedExpiry bus))

/-- A dead-confirm timer expires (R72). -/
def execDeadConfirmExpiry (bus : Bus) (s : State) : Out := .next (s.event (.deadConfirmExpiry bus))

/-- A return timer expires (R73). -/
def execReturnTimerExpiry (bus : Bus) (s : State) : Out := .next (s.event (.returnExpiry bus))

/-- The step timer of a WAITDEAD step expires (R122). -/
def execWaitdeadTimeout (s : State) : Out := .next (s.event .waitdeadTimeout)

/-- The step timer of a DWELL step expires (R123). -/
def execDwellExpiry (s : State) : Out := .next (s.event .dwellExpiry)

/-- The step timer of a WAITHEALTHY step expires (R126). -/
def execWaithealthyTimeout (s : State) : Out := .next (s.event .waithealthyTimeout)

/-- The guard timer expires (R136). -/
def execGuardExpiry (s : State) : Out := .next (s.event .guardExpiry)

/-- An attempt's time-limit timer expires (R152). -/
def execSyncTimeLimitExpiry (s : State) : Out := .next (s.event .syncLimitExpiry)

/-- Station time reaches an entry's execute-at less the send lead (R161, R162). -/
def execEntryDue (num : CmdNum) (s : State) : Out := .next (s.event (.entryDue num))

/-- A SENT entry's deadline expires (R167). -/
def execOperateDeadlineExpiry (num : CmdNum) (s : State) : Out := .next (s.event (.deadlineExpiry num))

/-- A frequency stage timer expires (R179). -/
def execFrequencyStageExpiry (bus : Bus) (s : State) : Out := .next (s.event (.frequencyExpiry bus))

/-- A capacity stage timer expires (R179). -/
def execCapacityStageExpiry (bus : Bus) (s : State) : Out := .next (s.event (.capacityExpiry bus))

/-- A settle timer expires (R181). -/
def execSettleExpiry (bus : Bus) (s : State) : Out := .next (s.event (.settleExpiry bus))

/-- A stagger timer expires (R182). -/
def execStaggerExpiry (bus : Bus) (s : State) : Out := .next (s.event (.staggerExpiry bus))

/-- The status timer expires (R195). -/
def execStatusTimerExpiry (s : State) : Out := .next (s.event .statusExpiry)

end Sys2Proof.Machine
end

