-- ==== Sys2Proof/Machine/Dispatch.lean ====
section
/-! DEFINITION. The dispatch of a command to its meaning: one arm for each row of the opcode table. -/

namespace Sys2Proof.Machine

def exec (i : Instr) (s : State) : Host.Outcome State Fault Refusal :=
  match i with
  | .powerOn straps => Sys2Proof.Machine.execPowerOn straps s
  | .frameReceived port checkOk bytes => Sys2Proof.Machine.execFrameReceived port checkOk bytes s
  | .reading point body => Sys2Proof.Machine.execReading point body s
  | .stateReport breaker body => Sys2Proof.Machine.execStateReport breaker body s
  | .genstat source body => Sys2Proof.Machine.execGenstat source body s
  | .timeFrame master => Sys2Proof.Machine.execTimeFrame master s
  | .announce port frame => Sys2Proof.Machine.execAnnounce port frame s
  | .readRows sender table first count => Sys2Proof.Machine.execReadRows sender table first count s
  | .writeRows sender table first rows => Sys2Proof.Machine.execWriteRows sender table first rows s
  | .writeUnitMap sender first rows => Sys2Proof.Machine.execWriteUnitMap sender first rows s
  | .writeTopology sender first rows => Sys2Proof.Machine.execWriteTopology sender first rows s
  | .writeTemplates sender first rows => Sys2Proof.Machine.execWriteTemplates sender first rows s
  | .writeCandidateLists sender first rows => Sys2Proof.Machine.execWriteCandidateLists sender first rows s
  | .writeSourceSettings sender first rows => Sys2Proof.Machine.execWriteSourceSettings sender first rows s
  | .writeBreakerSettings sender first rows => Sys2Proof.Machine.execWriteBreakerSettings sender first rows s
  | .writeBusSettings sender first rows => Sys2Proof.Machine.execWriteBusSettings sender first rows s
  | .writeGroupTable sender first rows => Sys2Proof.Machine.execWriteGroupTable sender first rows s
  | .clearPortTallies sender first rows => Sys2Proof.Machine.execClearPortTallies sender first rows s
  | .start sender => Sys2Proof.Machine.execStart sender s
  | .halt sender => Sys2Proof.Machine.execHalt sender s
  | .restart sender => Sys2Proof.Machine.execRestart sender s
  | .transfer sender template => Sys2Proof.Machine.execTransfer sender template s
  | .test sender template => Sys2Proof.Machine.execTest sender template s
  | .confirm sender channel => Sys2Proof.Machine.execConfirm sender channel s
  | .setChannel sender channel enable mask mode => Sys2Proof.Machine.execSetChannel sender channel enable mask mode s
  | .ackConditions sender flags => Sys2Proof.Machine.execAckConditions sender flags s
  | .clearFaults sender => Sys2Proof.Machine.execClearFaults sender s
  | .operate sender breaker action => Sys2Proof.Machine.execOperate sender breaker action s
  | .sourceServiceOut sender source => Sys2Proof.Machine.execSourceServiceOut sender source s
  | .sourceServiceIn sender source => Sys2Proof.Machine.execSourceServiceIn sender source s
  | .clearLockout sender bus => Sys2Proof.Machine.execClearLockout sender bus s
  | .resetBreaker sender breaker => Sys2Proof.Machine.execResetBreaker sender breaker s
  | .restoreGroup sender group => Sys2Proof.Machine.execRestoreGroup sender group s
  | .identify sender => Sys2Proof.Machine.execIdentify sender s
  | .unknownRequest sender => Sys2Proof.Machine.execUnknownRequest sender s
  | .foreignRequest => Sys2Proof.Machine.execForeignRequest s
  | .portUp port => Sys2Proof.Machine.execPortUp port s
  | .portDown port => Sys2Proof.Machine.execPortDown port s
  | .transmitEnd port => Sys2Proof.Machine.execTransmitEnd port s
  | .silenceExpiry row => Sys2Proof.Machine.execSilenceExpiry row s
  | .holdoverExpiry => Sys2Proof.Machine.execHoldoverExpiry s
  | .slewInstant => Sys2Proof.Machine.execSlewInstant s
  | .pickupExpiry source => Sys2Proof.Machine.execPickupExpiry source s
  | .unplannedParallelExpiry bus => Sys2Proof.Machine.execUnplannedParallelExpiry bus s
  | .deadConfirmExpiry bus => Sys2Proof.Machine.execDeadConfirmExpiry bus s
  | .returnTimerExpiry bus => Sys2Proof.Machine.execReturnTimerExpiry bus s
  | .waitdeadTimeout => Sys2Proof.Machine.execWaitdeadTimeout s
  | .dwellExpiry => Sys2Proof.Machine.execDwellExpiry s
  | .waithealthyTimeout => Sys2Proof.Machine.execWaithealthyTimeout s
  | .guardExpiry => Sys2Proof.Machine.execGuardExpiry s
  | .syncTimeLimitExpiry => Sys2Proof.Machine.execSyncTimeLimitExpiry s
  | .entryDue num => Sys2Proof.Machine.execEntryDue num s
  | .operateDeadlineExpiry num => Sys2Proof.Machine.execOperateDeadlineExpiry num s
  | .frequencyStageExpiry bus => Sys2Proof.Machine.execFrequencyStageExpiry bus s
  | .capacityStageExpiry bus => Sys2Proof.Machine.execCapacityStageExpiry bus s
  | .settleExpiry bus => Sys2Proof.Machine.execSettleExpiry bus s
  | .staggerExpiry bus => Sys2Proof.Machine.execStaggerExpiry bus s
  | .statusTimerExpiry => Sys2Proof.Machine.execStatusTimerExpiry s

end Sys2Proof.Machine
end

