-- ==== Sys2Proof/Safety.lean ====
section
/-! DEFINITION. What statements about the block are said in: the laws that every step keeps, the conditions under which a
command's effect reaches no other block, and the whole effect of a Response or Status frame on two ports that rest. -/

namespace Sys2Proof.Machine

/-! ### Laws that every step keeps -/

/-- The RUN output is high in AUTO and low in HALTED (R78). -/
def Part.runOutputAgrees (p : Part) : Prop := p.arbiter.runOut = (p.arbiter.mode == .auto)

/-- The schedule has room for 16 entries, and no two hold one command number (R155, R157). -/
def Part.scheduleSound (p : Part) : Prop :=
  p.schedule.entries.length ≤ scheduleRoom ∧ (p.schedule.entries.map (·.num)).Nodup

/-- At most one channel is engaged, and only an enabled channel is pending (R83, R85, R87). -/
def Part.channelsSound (p : Part) : Prop :=
  (∀ c d : Channel, (p.channel c).engaged ≠ .no → (p.channel d).engaged ≠ .no → c = d) ∧
    ∀ c : Channel, (p.channel c).pending = true → (p.channel c).enable = true

/-- The feed states and fed domains held are those of the positions and the topology (R66). -/
def Part.feedingAgrees (p : Part) : Prop :=
  (∀ x : Bus, (p.bus x).feed = p.feedBy x) ∧ ∀ s : Src, p.fedDomain s = p.domainBy s

/-- No two rows of the unit map in use hold one role and index, or bind one station (R10, R12). -/
def Part.unitMapUnique (p : Part) : Prop :=
  ∀ i j : Fin 32, i ≠ j → (p.row i).role ≠ .empty → (p.row j).role ≠ .empty →
    (p.row i).role ≠ (p.row j).role ∧ ((p.row i).station.val ≠ 0 → (p.row i).station ≠ (p.row j).station)

/-- Every source with an excursion in progress is RIDING, and the reverse; a pickup timer runs only in RISING (R46,
R47, R51). -/
def Part.sourcesSound (p : Part) : Prop :=
  ∀ s : Src, ((p.source s).excursion.isSome = ((p.source s).state == .riding)) ∧
    ((p.source s).pickup.isRunning = true → (p.source s).state = .rising)

/-- The timers of a load stage record run in the stages they belong to (R175, R178, R179, R181, R182). -/
def LoadStage.timersAgree (r : LoadStage) : Prop :=
  ((r.freqTimer.isRunning || r.capTimer.isRunning) = (r.shed == .timing)) ∧
    (r.settle.isRunning = (r.restore == .settling)) ∧ (r.stagger.isRunning = (r.restore == .staggering))

/-- The holdover timer runs in HOLDOVER, the guard timer in RUNNING, and the load timers in their stages (R26, R134,
R175). -/
def Part.timersAgree (p : Part) : Prop :=
  (p.time.holdover.isRunning = (p.time.state == .holdover)) ∧
    (p.guard.timer.isRunning = (p.guard.state == .running)) ∧ ∀ x : Bus, (p.stage x).timersAgree

/-- A forward queue holds at most 8 frames, and a port that is DOWN holds and sends nothing (R4, R5). -/
def PortState.sound (k : PortState) : Prop :=
  k.queue.length ≤ queueDepth ∧
    (k.up = false → k.queue = [] ∧ k.command = none ∧ k.response = none ∧ k.status = none ∧ k.sending = none)

/-- Both ports hold what a port may hold (R4, R5). -/
def Part.portsSound (p : Part) : Prop := ∀ k : Port, (p.port k).sound

/-- A second fault is held only beside a first, and faults are dropped only when both are (R193). -/
def FaultLog.sound (log : FaultLog) : Prop :=
  (log.second.isSome = true → log.first.isSome = true) ∧ (log.dropped ≠ 0 → log.second.isSome = true)

/-- The kept records stay within their depths: 8 excursions a source, 4 operates, and the Fault Log (R51, R186,
R193). -/
def Part.recordsBounded (p : Part) : Prop :=
  (∀ s : Src, (p.source s).history.length ≤ historyDepth) ∧
    p.management.operates.length ≤ operateDepth ∧ p.management.faults.sound

/-! ### Settings within their ranges -/

/-- Time settings within the ranges of R20. -/
def timeInRange (k : TimeSettings) : Bool :=
  within 0 1000 k.transit && within 10 500 k.lockBand && within 500 100000 k.stepThreshold &&
    within 1 200 k.slewLimit && within 2 60 k.holdover && within 100 100000 k.futureStamp

/-- Source settings within the ranges of R38, with the orders that R39 asks for. -/
def sourceInRange (k : SourceSettings) : Bool :=
  (sourceFields k).all (fun f => within f.lo f.hi f.value) && k.acceptLo ≤ k.acceptHi && k.holdLo ≤ k.holdHi &&
    k.fAcceptLo ≤ k.fAcceptHi && k.fHoldLo ≤ k.fHoldHi && k.floor2 ≤ k.floor1

/-- Breaker settings within the ranges of R62. -/
def breakerInRange (k : BreakerSettings) : Bool :=
  within 10000 200000 k.tc && within 10000 150000 k.topen && within 20 2000 k.margin && k.serviceLimit ≤ 65535

/-- Bus settings within the ranges of R68, R73 and R174, with f_restore above f_shed. -/
def busInRange (k : BusSettings) : Bool :=
  (busFields k).all (fun f => within f.lo f.hi f.value) && k.fShed < k.fRestore

/-- Sync settings within the ranges of R138, with slipMin not above slipMax. -/
def syncInRange (k : SyncSettings) : Bool :=
  (syncFields k).all (fun f => within f.lo f.hi f.value) && k.slipMin ≤ k.slipMax

/-- Schedule settings within the ranges of R156. -/
def scheduleInRange (k : ScheduleSettings) : Bool :=
  within 500 20000 k.minLead && within 1000 50000 k.sendLead && within 100 10000 k.lateTol &&
    within 100000 5000000 k.horizon

/-- A step's parameter and references within the values of R98. -/
def stepInRange : Step → Bool
  | .sync b r i _ => b.number ≤ 5 && r != i
  | .waitDead _ limit _ => within 10 60000 limit
  | .dwell time => time ≤ 600000
  | .waitHealthy _ limit => within 1 3600 limit
  | _ => true

/-- A template with no structural fault (R97–R99). -/
def Template.inRange (t : Template) : Bool :=
  t.steps.length ≤ 12 && t.steps.all stepInRange && t.required.length ≤ 4 && !repeats (t.required.map (·.1))

/-- A unit map row in use within the ranges of R10. -/
def unitRowInRange (r : UnitMapRow) : Bool :=
  r.role == .empty || (within 10 60000 r.silence && within 1 15 r.loss)

/-- Every setting of the part lies within its range, and no rank of 1–15 is held by two groups (R189, R169). -/
def Part.settingsInRange (p : Part) : Prop :=
  timeInRange p.time.settings = true ∧ scheduleInRange p.schedule.settings = true ∧
    within 50 1000 p.management.statusPeriod = true ∧
    (∀ r : Fin 32, unitRowInRange (p.row r) = true) ∧
    (∀ s : Src, sourceInRange (p.srcSet s) = true) ∧
    (∀ b : Breaker, breakerInRange (p.brkSet b) = true) ∧
    (∀ x : Bus, busInRange (p.busSet x) = true) ∧
    (∀ n : Fin 4, syncInRange (p.syncSettings.get n) = true) ∧
    (∀ n : Fin 24, (p.template n).inRange = true) ∧
    (∀ i : Fin 6, (p.candidates.get i).length ≤ 4 ∧ (p.candidates.get i).Nodup) ∧
    (∀ g : Grp, (p.group g).demand ≤ 50000 ∧ (p.group g).rank ≤ 15) ∧
    ∀ g h : Grp, g ≠ h → (p.group g).rank ≠ 0 → (p.group g).rank ≠ (p.group h).rank

/-! ### Conditions on a state under which an effect stays where it is -/

/-- Nothing of an earlier event is left to do (log 2). -/
def State.calm (s : State) : Prop := s.work = []

/-- Nothing of an earlier event is left to do, and the part is a numbered station (R1). -/
def State.serves (s : State) : Prop := s.work = [] ∧ s.part.numbered = true

/-- A port at rest: if its transmitter is free, nothing waits for it (R6). -/
def PortState.rests (k : PortState) : Bool :=
  !k.up || k.sending.isSome || (k.command.isNone && k.queue.isEmpty && k.response.isNone && k.status.isNone)

/-- Both ports are at rest (R6). -/
def Part.linkRests (p : Part) : Prop := ∀ k : Port, (p.port k).rests = true

/-- The schedule holds no entry and no copy taken back (R155, R163). -/
def Part.scheduleEmpty (p : Part) : Prop := p.schedule.entries = [] ∧ p.schedule.held = []

/-- No attempt is WAITING or ARMED (R139). -/
def Part.noOpenAttempt (p : Part) : Bool :=
  match p.attempt with
  | some a => !a.open
  | none => true

/-- The part stands down: it is HALTED, no plan is held, no attempt evaluates and no guard runs. -/
def Part.stoodDown (p : Part) : Prop :=
  p.arbiter.mode = .halted ∧ p.exec.state = .idle ∧ p.exec.plan = none ∧ p.noOpenAttempt = true ∧
    p.guard.state = .absent

/-- No channel is enabled or pending, so that a raise is only tallied (R85). -/
def Part.channelsClosed (p : Part) : Prop :=
  ∀ c : Channel, (p.channel c).enable = false ∧ (p.channel c).pending = false

/-- The channels that the Load Manager raises (R179, R182). -/
def loadChannel : Channel → Bool
  | .shed _ | .restore _ => true
  | _ => false

/-- The conditions that the Load Manager sets (R180, R182). -/
def loadFlag : Flag → Bool
  | .capacityShort | .restoreBlocked => true
  | _ => false

/-- A channel after raises that no take can follow: only its tally and its pending flag may differ (R85). -/
def ChannelRecord.raisedFrom (r old : ChannelRecord) : Prop := r = { old with tally := r.tally, pending := r.pending }

/-- `q` differs from `p` at most in what the Load Manager and its raises change while the part stands down: the load
stage records, the tally and pending flag of SHED_x and RESTORE_x, and the conditions CAPACITY_SHORT and RESTORE_BLOCKED
(R85, R173, R180, R182). -/
def Part.sameButLoad (p q : Part) : Prop :=
  q =
      { p with
        stages := q.stages
        channels := q.channels
        management := { p.management with conditions := q.management.conditions } } ∧
    (∀ c, loadChannel c = false → q.channel c = p.channel c) ∧ (∀ c, (q.channel c).raisedFrom (p.channel c)) ∧
    ∀ f, loadFlag f = false → q.condition f = p.condition f

/-- `q` differs from `p` at most in the condition records (R191). -/
def Part.sameButConditions (p q : Part) : Prop :=
  q = { p with management := { p.management with conditions := q.management.conditions } }

/-- The commands that only a numbered station takes: the frames passed on and the requests (R1). -/
def forStation : Instr → Bool
  | .powerOn _ | .frameReceived _ _ _ | .portUp _ | .portDown _ | .transmitEnd _ => false
  | .silenceExpiry _ | .holdoverExpiry | .slewInstant | .pickupExpiry _ | .unplannedParallelExpiry _ => false
  | .deadConfirmExpiry _ | .returnTimerExpiry _ | .waitdeadTimeout | .dwellExpiry | .waithealthyTimeout => false
  | .guardExpiry | .syncTimeLimitExpiry | .entryDue _ | .operateDeadlineExpiry _ | .frequencyStageExpiry _ => false
  | .capacityStageExpiry _ | .settleExpiry _ | .staggerExpiry _ | .statusTimerExpiry => false
  | _ => true

/-- The command of a MANAGER station's request, as the opcode table lists it (R185). -/
def requestCommand (m : Sender) : Request → Instr
  | .readRows table first count => .readRows m table first count
  | .writeRows table first rows => .writeRows m table first rows
  | .writeUnitMap first rows => .writeUnitMap m first rows
  | .writeTopology first rows => .writeTopology m first rows
  | .writeTemplates first rows => .writeTemplates m first rows
  | .writeCandidateLists first rows => .writeCandidateLists m first rows
  | .writeSourceSettings first rows => .writeSourceSettings m first rows
  | .writeBreakerSettings first rows => .writeBreakerSettings m first rows
  | .writeBusSettings first rows => .writeBusSettings m first rows
  | .writeGroupTable first rows => .writeGroupTable m first rows
  | .clearPortTallies first rows => .clearPortTallies m first rows
  | .start => .start m
  | .halt => .halt m
  | .restart => .restart m
  | .transfer template => .transfer m template
  | .test template => .test m template
  | .confirm channel => .confirm m channel
  | .setChannel channel enable mask mode => .setChannel m channel enable mask mode
  | .ackConditions flags => .ackConditions m flags
  | .clearFaults => .clearFaults m
  | .operate breaker action => .operate m breaker action
  | .sourceServiceOut source => .sourceServiceOut m source
  | .sourceServiceIn source => .sourceServiceIn m source
  | .clearLockout bus => .clearLockout m bus
  | .resetBreaker breaker => .resetBreaker m breaker
  | .restoreGroup group => .restoreGroup m group
  | .identify => .identify m
  | .unknown => .unknownRequest m

/-- The command that the owner of a role takes for a body that its unit's frame brings, where the role sends that kind
(R11, R185). -/
def ownerCommand (station : BitVec 8) (role : Role) : Body → Option Instr
  | .reading b =>
    match role with
    | .point pt => some (.reading pt b)
    | _ => none
  | .state b =>
    match role with
    | .breaker br => some (.stateReport br b)
    | _ => none
  | .genstat b =>
    match role with
    | .genctl i => some (.genstat i b)
    | _ => none
  | .time t =>
    match role with
    | .timeMaster => some (.timeFrame t)
    | _ => none
  | .announce _ _ => none
  | .request tag name arguments =>
    match role with
    | .manager _ => some (requestCommand ⟨station, tag⟩ (requestOf name arguments))
    | _ => some .foreignRequest

/-- A whole Nodesta frame of another station for the part's own address or a group address (R2, tests 4 to 6). -/
def Part.hears (p : Part) (bytes : List Byte) : Prop :=
  fieldAt bytes 12 2 = some nodestaType ∧ headerLength ≤ bytes.length ∧
    fieldAt bytes 15 1 ≠ some p.link.straps.toNat ∧
    (bytes.take 6 = stationAddress p.link.straps ∨ bytes.take 6 = lineMulticast ∨ bytes.take 6 = broadcast)

/-- A reading passes the three tests of R32. -/
def Part.accepts (p : Part) (pt : Point) (b : RawReading) : Bool :=
  !(b.test && !(p.point pt).testAccept) &&
    !(p.timeGood && p.now + p.time.settings.futureStamp < b.stamp.toNat) &&
    !staleStamp (p.point pt).lastStamp b.stamp.toNat

/-- The plan that runs waits on its step timer, which has counted its time (R114, R122, R123, R126). -/
def Part.timerOut (p : Part) (step : Step) : Prop :=
  p.exec.state = .running ∧ p.exec.decided = false ∧ p.exec.phase = some .timer ∧ p.exec.timer.due = true ∧
    p.currentStep = some step ∧ p.stepOpen = true

/-- The entry of a step in the current plan record, steps counted from 1 (R116). -/
def Part.planStep (p : Part) (step : Nat) : Option StepRecord :=
  match p.currentPlan with
  | some r => r.steps[step - 1]?
  | none => none

/-- The outcome in the current plan record (R116). -/
def Part.planOutcome (p : Part) : Option PlanOutcome :=
  match p.currentPlan with
  | some r => r.outcome
  | none => none

/-- The current plan record is that of the plan held, step for step, and the current step is one of its steps (R114,
R116). -/
def Part.planSound (p : Part) (pl : Plan) : Prop :=
  1 ≤ p.exec.step ∧ p.exec.step ≤ pl.steps.length ∧
    (∃ r, p.currentPlan = some r ∧ r.serial = p.exec.serial ∧ r.steps.length = pl.steps.length) ∧
    ∀ r, p.previousPlan = some r → r.serial ≠ p.exec.serial

/-- From `p` to `q` the current step has ended now with an outcome, and the next waits on its timer: nothing but the
executor and the current plan record has changed (R114, R116, R117). -/
def Part.movedOn (p : Part) (o : StepOutcome) (duration : Nat) (q : Part) : Prop :=
  q = { p with exec := q.exec, currentPlan := q.currentPlan } ∧
    q.exec =
      { p.exec with
        step := p.exec.step + 1
        phase := some .timer
        timer := .running 0 duration
        stepFailed := none
        stepCut := false } ∧
    (∃ r, q.planStep p.exec.step = some r ∧ r.outcome = some o ∧ r.ended = some p.now) ∧
    ∃ r, q.planStep (p.exec.step + 1) = some r ∧ r.outcome = none

/-! ### Corrections of station time -/

/-- The Time Base after station time is stepped to a target (R25). -/
def TimeBase.stepped (t : TimeBase) (target : Nat) : TimeBase :=
  { t with
    now := target
    lastStep := some ((target : Int) - (t.now : Int))
    stepTally := tick16 t.stepTally
    correction := 0
    slewTotal := 0
    withhold := 0
    stepDeferred := false
    lastFrame := some target }

/-- The Time Base as a slew by an error begins (R23): the correction is the error within the slew limit, and its interval
the span since the previous TIME frame within 100 ms–10 s. -/
def TimeBase.slewing (t : TimeBase) (e : Int) (seed : Nat) : TimeBase :=
  let c : Int := max (-(t.settings.slewLimit : Int)) (min (t.settings.slewLimit : Int) e)
  { t with
    correction := c
    slewTotal := c.natAbs
    slewInterval := max 100000 (min 10000000 (t.now - t.lastFrame.getD t.now))
    slewElapsed := 0
    slewSeed := seed
    withhold := 0
    lastFrame := some t.now }

/-- The Time Base once a TIME frame with a target within 48 bits is counted (R21). -/
def TimeBase.taken (t : TimeBase) (target : Nat) : TimeBase :=
  { t with timeTally := tick16 t.timeTally, lastError := some ((target : Int) - (t.now : Int)) }

/-! ### The whole effect of a frame that the part makes, on ports at rest -/

/-- A port takes a Response frame: it is sent if the transmitter is free, and else waits in its slot (R6, R7). -/
def PortState.takeResponse (f : ResponseFrame) (k : PortState) : PortState :=
  if !k.up then k
  else if k.sending.isNone then { k with sending := some (.response f) }
  else
    { k with
      response := some f
      tallies := if k.response.isSome then countResponseDrop k.tallies else k.tallies }

/-- A port takes a Status frame: it is sent if the transmitter is free, and else waits in its slot (R6, R7). -/
def PortState.takeStatus (f : StatusFrame) (k : PortState) : PortState :=
  if !k.up then k
  else if k.sending.isNone then { k with sending := some (.status f) }
  else { k with status := some f }

/-- The frame that a port's arbiter takes when its transmitter becomes free, and the port then (R6). -/
def PortState.sendNext (k : PortState) : PortState :=
  match k.command, k.queue, k.response, k.status with
  | some f, _, _, _ => { k with command := none, sending := some (.command f) }
  | none, oldest :: rest, _, _ => { k with queue := rest, sending := some (.forwarded oldest) }
  | none, [], some f, _ => { k with response := none, sending := some (.response f) }
  | none, [], none, some f => { k with status := none, sending := some (.status f) }
  | none, [], none, none => { k with sending := none }

/-- A frame is offered to a port at rest for forwarding (R4–R6). -/
def PortState.takeForward (bytes : List Byte) (k : PortState) : PortState :=
  if !k.up then { k with tallies := countDiscard 1 k.tallies }
  else if k.sending.isNone then { k with sending := some (.forwarded bytes) }
  else if queueDepth ≤ k.queue.length then { k with tallies := countOverflow k.tallies }
  else { k with queue := k.queue ++ [bytes] }

/-- A frame that the part hears on a port goes on to the other port too, unless it is for the part's own address (R2). -/
def Part.heard (p : Part) (k : Port) (bytes : List Byte) : Part :=
  if bytes.take 6 = stationAddress p.link.straps then p
  else p.setPort (otherPort k) ((p.port (otherPort k)).takeForward bytes)

/-- The part answers a request: one Response frame on both ports; a refusal is tallied (R7, R8, R185). -/
def Part.answerWith (p : Part) (m : Sender) (a : Answer) (rows : List RowData) : Part :=
  let dest : Destination := if p.link.addressing = .unicast then .station m.station else .line
  let f : ResponseFrame := ⟨⟨dest, p.link.straps, p.link.txSeq, p.now⟩, m.tag, a, rows⟩
  { p with
    link :=
      { p.link with
        txSeq := p.link.txSeq + 1
        ports := ⟨p.link.ports.one.takeResponse f, p.link.ports.two.takeResponse f⟩ }
    management :=
      { p.management with
        refused :=
          match a with
          | .refused _ => tick16 p.management.refused
          | _ => p.management.refused } }

/-- The part makes a Status frame now, on both ports, and its status timer starts again (R195). -/
def Part.statusSent (p : Part) : Part :=
  let f : StatusFrame := ⟨⟨.broadcast, p.link.straps, p.link.txSeq, p.now⟩, p.status⟩
  { p with
    link :=
      { p.link with
        txSeq := p.link.txSeq + 1
        ports := ⟨p.link.ports.one.takeStatus f, p.link.ports.two.takeStatus f⟩ }
    management := { p.management with statusTimer := .start (ms p.management.statusPeriod) } }

/-- The request tally counts a request (R185). -/
def Part.countRequest (p : Part) : Part :=
  p.setManagement { p.management with requests := tick16 p.management.requests }

/-- The part after a request that has no other effect than its answer (R185). -/
def Part.onlyAnswers (p : Part) (m : Sender) (a : Answer) (rows : List RowData) : Part :=
  p.countRequest.answerWith m a rows

/-- A raise that no take can follow: the tally counts it, and an enabled channel is pending (R85). -/
def Part.raised (p : Part) (c : Channel) : Part :=
  p.setChannel c
    { p.channel c with tally := tick16 (p.channel c).tally, pending := (p.channel c).pending || (p.channel c).enable }

end Sys2Proof.Machine
end

