-- ==== Sys2Proof/Certificates/Slice0/Obligations.lean ====
section
/-! DEFINITION. The statements about the block. Each is of the model's `exec` and `step`, or of an operation that they
call. A state `serves` when it is a numbered part's and no hand-off waits; ports `rest` when nothing waits for a free
transmitter. -/

open Sys2Proof Sys2Proof.Machine

/-! ### The queue, the idle block, and POWER_ON -/

/-- A step takes the front command and carries it out with the queue's rest. -/
def Obligations.StepTakesTheFrontCommand : Prop :=
  ∀ (c : Instr) (rest : List Instr) (s : State), step { s with pending := c :: rest } = exec c { s with pending := rest }

/-- Every command answers a next state in every state, and leaves the waiting commands as they are. That an expiry
completes when it is not due is the model's choice (log 7). -/
def Obligations.EveryCommandCompletes : Prop :=
  ∀ (c : Instr) (s : State), ∃ t, exec c s = .next t ∧ t.pending = s.pending

/-- The model's choice (log 7): with no command waiting, a calm block in which nothing expires counts 1 µs of its clock,
and one expiry that is due becomes the next command. While a slew has counts to withhold, a count is withheld and
station time stands: that this happens at the next microseconds of the clock is the model's reading of R23 (log 22). -/
def Obligations.IdleBlockCountsItsClock : Prop :=
  ∀ s : State, s.pending = [] → s.calm →
    (s.part.expiries = [] → s.part.time.correction = 0 → s.part.time.withhold = 0 →
      step s = .next { s with part := s.part.count }) ∧
    (s.part.expiries = [] → s.part.time.correction = 0 → s.part.time.withhold ≠ 0 →
      step s =
        .next { s with part := s.part.setTime { s.part.time with withhold := s.part.time.withhold - 1 } }) ∧
    ∀ c, s.part.expiries = [c] → step s = .next { s with pending := [c] }

/-- POWER_ON reads the straps and gives every piece of state its POWER-ON value. The values of the fields for which
the rules give none, the kept free count and the waiting queue are the model's (logs 7, 21, 22, 33 and 39). -/
def Obligations.PowerOnGivesPowerOnValues : Prop :=
  ∀ (straps : BitVec 8) (s : State), ∃ t, exec (.powerOn straps) s = .next t ∧
    t = { s with part := { Part.powerOn straps with freeCount := s.part.freeCount }, work := [] } ∧
    (t.part.numbered = true ↔ 1 ≤ straps.toNat ∧ straps.toNat ≤ 254) ∧
    t.part.arbiter.mode = .halted ∧ t.part.arbiter.runOut = false ∧
    (∀ k, (t.part.port k).up = false ∧ (t.part.port k).tallies = PortTallies.zero) ∧
    (∀ r, (t.part.row r).role = .empty ∧ (t.part.unit r).state = .absent) ∧
    t.part.time.now = 0 ∧ t.part.time.state = .unsynced ∧
    (∀ pt, (t.part.point pt).seen = false ∧ (t.part.point pt).latest = none) ∧
    (∀ i, (t.part.source i).state = .out ∧ t.part.kind i = .unused ∧ (t.part.source i).history = []) ∧
    (∀ b, (t.part.breaker b).position = .unknown ∧ (t.part.breaker b).failed = false ∧ (t.part.breaker b).opCount = 0) ∧
    (∀ x, (t.part.bus x).live = .blind ∧ (t.part.bus x).feed = .unfed ∧ (t.part.bus x).lockout = false) ∧
    (∀ c, (t.part.channel c).enable = true ∧ (t.part.channel c).mask = false ∧ (t.part.channel c).pending = false ∧
      (t.part.channel c).engaged = .no ∧ (t.part.channel c).tally = 0 ∧
      ((t.part.channel c).mode = .holdForConfirm ↔ c = .operator)) ∧
    t.part.exec.state = .idle ∧ t.part.currentPlan = none ∧ t.part.attempt = none ∧ t.part.guard.state = .absent ∧
    t.part.schedule.entries = [] ∧ t.part.schedule.next = 0 ∧
    (∀ g, (t.part.group g).demand = 0 ∧ (t.part.group g).rank = 0 ∧ (t.part.group g).mark = false) ∧
    (∀ f, (t.part.condition f).set = false ∧ (t.part.condition f).tally = 0) ∧
    t.part.management.faults = FaultLog.init

/-- The state after reset meets every law that the statements about steps name. -/
def Obligations.ResetMeetsTheLaws : Prop :=
  State.reset.part.runOutputAgrees ∧ State.reset.part.scheduleSound ∧ State.reset.part.channelsSound ∧
    State.reset.part.feedingAgrees ∧ State.reset.part.unitMapUnique ∧ State.reset.part.settingsInRange ∧
    State.reset.part.sourcesSound ∧ State.reset.part.timersAgree ∧ State.reset.part.portsSound ∧
    State.reset.part.recordsBounded

/-- Only a numbered part takes frames in. An unnumbered part takes no command of a station, and offers every whole frame
to the other port, one for a group address too; a short Nodesta frame is also counted; nothing else changes. A numbered
part supervises a frame it hears by its unit's record: one that is not passed on changes the record only, one of a kind
that its role does not send is counted, one that reveals a gap at the loss threshold leaves the unit LOST, and one that
passes has the effect of its owner's command; an ANNOUNCE has that of its own command. A frame of an ACTIVE unit that is
in sequence passes and works the miss count off, one ahead adds the gap to it and loses the unit at the threshold (a
MANAGER never), and one behind is stale. Which rows are an unnumbered part's, the order of forwarding and taking in, and
a stale frame of a wrong kind follow logs 11, 13 and 27. The events of an owner's command come to an end within the
model's bound (log 2). -/
def Obligations.OnlyNumberedPartsTakeFramesIn : Prop :=
  (∀ s : State, s.part.numbered = false →
    (∀ c, forStation c = true → exec c s = .next s) ∧
    ∀ (k : Port) (bytes : List Byte), s.calm → (s.part.port k).up = true →
      (s.part.port (otherPort k)).rests = true →
      let short := fieldAt bytes 12 2 = some nodestaType ∧ bytes.length < headerLength
      let p := if short then s.part.tally k countFormat else s.part
      exec (.frameReceived k true bytes) s =
        .next { s with part := p.setPort (otherPort k) ((p.port (otherPort k)).takeForward bytes) }) ∧
  (∀ (s : State) (k : Port) (bytes : List Byte) (h : Header) (b : Body), s.serves → (s.part.port k).up = true →
    (s.part.port (otherPort k)).rests = true → s.part.hears bytes → frameOf bytes = some (h, b) →
    let p := s.part.heard k bytes
    (∀ role index, b = .announce role index →
      let f : AnnounceFrame := ⟨h.station, h.seq, role, index⟩
      (drain (Config.eventBound - 3) [.announce k f] p).2 = [] →
      exec (.frameReceived k true bytes) s = exec (.announce k f) { s with part := p }) ∧
    ∀ r, s.part.rowOfStation h.station.toNat = some r → (∀ role index, b ≠ .announce role index) →
      let u := superviseUnit (s.part.row r) (s.part.unit r) h.seq s.part.now
      let q := p.setUnit r u.1
      let owner := ownerCommand h.station (s.part.row r).role b
      (owner = none → u.2 ≠ .lost →
        exec (.frameReceived k true bytes) s = .next { s with part := q.tally k countFormat }) ∧
      (owner.isSome = true → u.2 = .discarded → exec (.frameReceived k true bytes) s = .next { s with part := q }) ∧
      (u.2 = .lost →
        ∃ t, exec (.frameReceived k true bytes) s = .next t ∧ t.part.units = q.units ∧
          t.part.unitMap = s.part.unitMap) ∧
      ∀ c τ, owner = some c → u.2 = .passed → ownerTask h.station (s.part.row r).role b = some τ →
        (drain (Config.eventBound - 3) [τ] q).2 = [] →
        exec (.frameReceived k true bytes) s = exec c { s with part := q }) ∧
  ∀ (row : UnitMapRow) (u : UnitRecord) (seq : SeqNum) (now : Nat), u.state = .active →
    let d := (seq - u.expected).toNat
    let heard : UnitRecord :=
      { u with last := some now, silence := if isManager row.role then .stopped else .running 0 (row.silence * 1000) }
    let v := superviseUnit row u seq now
    (d = 0 →
      v = ({ heard with
        expected := u.expected + 1
        goodRun := if u.goodRun + 1 < 32 then u.goodRun + 1 else 0
        miss := if u.goodRun + 1 < 32 then u.miss else u.miss - 1 }, .passed)) ∧
    (1 ≤ d → d ≤ 32767 →
      let ahead : UnitRecord := { heard with miss := min 15 (u.miss + d), goodRun := 0, expected := seq + 1 }
      v =
        if isManager row.role = false ∧ row.loss ≤ min 15 (u.miss + d) then
          ({ ahead with state := .lost, rejoin := 0 }, .lost)
        else (ahead, .passed)) ∧
    (32768 ≤ d → v = ({ heard with stale := tick16 u.stale }, .discarded))

/-! ### Laws that every step keeps -/

/-- Every step keeps the RUN output high exactly in AUTO. -/
def Obligations.StepsKeepTheRunOutput : Prop :=
  ∀ s t : State, s.part.runOutputAgrees → step s = .next t → t.part.runOutputAgrees

/-- Every step keeps the schedule within 16 entries, with no command number twice. -/
def Obligations.StepsKeepTheScheduleSound : Prop :=
  ∀ s t : State, s.part.scheduleSound → step s = .next t → t.part.scheduleSound

/-- Every step keeps at most one channel engaged, and only enabled channels pending. -/
def Obligations.StepsKeepTheChannelsSound : Prop :=
  ∀ s t : State, s.part.channelsSound → step s = .next t → t.part.channelsSound

/-- Every step keeps the feed states and fed domains those of the positions and the topology. -/
def Obligations.StepsKeepFeedingAgreed : Prop :=
  ∀ s t : State, s.part.feedingAgrees → step s = .next t → t.part.feedingAgrees

/-- Every step keeps each role and each station in one row of the unit map. -/
def Obligations.StepsKeepTheUnitMapUnique : Prop :=
  ∀ s t : State, s.part.unitMapUnique → step s = .next t → t.part.unitMapUnique

/-- Every step keeps every setting within its range, and every rank of 1–15 with one group. -/
def Obligations.StepsKeepSettingsInRange : Prop :=
  ∀ s t : State, s.part.settingsInRange → step s = .next t → t.part.settingsInRange

/-- Every step keeps excursions with RIDING sources, and pickup timers running in RISING ones only. -/
def Obligations.StepsKeepTheSourcesSound : Prop :=
  ∀ s t : State, s.part.sourcesSound → step s = .next t → t.part.sourcesSound

/-- Every step keeps the holdover, guard and load timers running in the states they belong to. -/
def Obligations.StepsKeepTimersWithTheirStates : Prop :=
  ∀ s t : State, s.part.timersAgree → step s = .next t → t.part.timersAgree

/-- Every step keeps the forward queues within 8 frames, and a port that is DOWN empty. -/
def Obligations.StepsKeepThePortsSound : Prop :=
  ∀ s t : State, s.part.portsSound → step s = .next t → t.part.portsSound

/-- Every step keeps the histories, the operate record and the Fault Log within their depths. -/
def Obligations.StepsKeepTheRecordsBounded : Prop :=
  ∀ s t : State, s.part.recordsBounded → step s = .next t → t.part.recordsBounded

/-! ### Ports and frames -/

/-- A port comes UP empty, with its tallies; one that goes DOWN discards and counts what it holds, and loses the frame
being sent. The other port is as before. When a frame ends, the arbiter takes the Command frame, else the oldest
forwarded frame, else the Response frame, else the Status frame; nothing else changes. That the lost frame is counted
in no tally is read from R5 (log 12). -/
def Obligations.PortsAndTransmitters : Prop :=
  (∀ (s : State) (k : Port), s.calm → s.part.scheduleEmpty →
     exec (.portUp k) s =
       .next (if (s.part.port k).up then s
         else { s with part := s.part.setPort k ⟨true, [], none, none, none, none, (s.part.port k).tallies⟩ }) ∧
     exec (.portDown k) s =
       .next (if (s.part.port k).up then
         { s with
           part := s.part.setPort k
             ⟨false, [], none, none, none, none,
               { (s.part.port k).tallies with
                 discard := min 65535 ((s.part.port k).tallies.discard + ((s.part.port k).queue.length +
                   (s.part.port k).command.toList.length + (s.part.port k).response.toList.length +
                   (s.part.port k).status.toList.length)) }⟩ }
         else s)) ∧
  ∀ (s : State) (k : Port), s.calm → s.part.scheduleEmpty → (s.part.port k).sound →
    exec (.transmitEnd k) s =
      .next (if (s.part.port k).sending.isSome then { s with part := s.part.setPort k (s.part.port k).sendNext } else s)

/-- A frame that is not taken further is counted in one tally of its port, and nothing else changes: a failed check,
the part's own number come back, a failed layout, a station that no row binds. On a port that is DOWN nothing changes.
A Command frame of the part's own that comes back is counted so too. A frame of another type, or of a Nodesta frame
for another station, goes to the other port: it is sent, queued, or dropped and counted there. -/
def Obligations.ReceivedFramesAreCountedOrForwarded : Prop :=
  (∀ (s : State) (k : Port) (bytes : List Byte), s.calm →
     ((s.part.port k).up = false → ∀ ok, exec (.frameReceived k ok bytes) s = .next s) ∧
     ((s.part.port k).up = true →
       exec (.frameReceived k false bytes) s = .next { s with part := s.part.tally k countCheck }) ∧
     ((s.part.port k).up = true → s.part.numbered = true → fieldAt bytes 12 2 = some nodestaType →
       headerLength ≤ bytes.length →
       (fieldAt bytes 15 1 = some s.part.link.straps.toNat →
         exec (.frameReceived k true bytes) s = .next { s with part := s.part.tally k countLoop }) ∧
       (fieldAt bytes 15 1 ≠ some s.part.link.straps.toNat → bytes.take 6 = stationAddress s.part.link.straps →
         (frameOf bytes = none →
           exec (.frameReceived k true bytes) s = .next { s with part := s.part.tally k countFormat }) ∧
         ∀ h b, frameOf bytes = some (h, b) → (∀ role index, b ≠ .announce role index) →
           s.part.rowOfStation h.station.toNat = none →
           exec (.frameReceived k true bytes) s = .next { s with part := s.part.tally k countUnmapped }))) ∧
  (∀ (s : State) (k : Port) (f : CommandFrame), s.serves → (s.part.port k).up = true →
     f.head.station = s.part.link.straps →
     exec (.frameReceived k true f.bytes) s = .next { s with part := s.part.tally k countLoop }) ∧
  ∀ (s : State) (k : Port) (bytes : List Byte), s.calm → (s.part.port k).up = true →
    (s.part.port (otherPort k)).rests = true →
    (fieldAt bytes 12 2 ≠ some nodestaType ∨
      (headerLength ≤ bytes.length ∧ fieldAt bytes 15 1 ≠ some s.part.link.straps.toNat ∧
        bytes.take 6 ≠ stationAddress s.part.link.straps ∧ bytes.take 6 ≠ lineMulticast ∧
        bytes.take 6 ≠ broadcast)) →
    exec (.frameReceived k true bytes) s =
      .next { s with
        part := s.part.setPort (otherPort k) ((s.part.port (otherPort k)).takeForward bytes) }

/-- Four frames of a LOST unit, of consecutive sequences from one that is not stale, return it to ACTIVE with a miss
count of 0, and no fewer do. -/
def Obligations.LostUnitRejoinsOnFourFrames : Prop :=
  ∀ (row : UnitMapRow) (u : UnitRecord) (seq : SeqNum) (a b c d : Nat), u.state = .lost → u.rejoin = 0 →
    (seq - u.expected).toNat ≤ 32767 →
    let u1 := superviseUnit row u seq a
    let u2 := superviseUnit row u1.1 (seq + 1) b
    let u3 := superviseUnit row u2.1 (seq + 2) c
    let u4 := superviseUnit row u3.1 (seq + 3) d
    (u1.2 = .discarded ∧ u2.2 = .discarded ∧ u3.2 = .discarded ∧ u3.1.state = .lost) ∧
      u4.2 = .passed ∧ u4.1.state = .active ∧ u4.1.miss = 0 ∧ u4.1.expected = seq + 4 ∧ u4.1.last = some d

/-- An ANNOUNCE for a free learn-set row binds its station there and makes the unit ACTIVE; one for a row that binds
another station sets DUPLICATE_ROLE; one that no row can take is counted. -/
def Obligations.AnnounceBindsAFreeRow : Prop :=
  ∀ (s : State) (k : Port) (f : AnnounceFrame) (n : Fin 255), s.serves → f.station.toNat = n.val → 1 ≤ n.val →
    s.part.rowOfStation n.val = none →
    (((claimedRole f.role f.index.toNat).bind s.part.rowOfRole) = none →
      exec (.announce k f) s = .next { s with part := s.part.tally k countUnmapped }) ∧
    ∀ r, ((claimedRole f.role f.index.toNat).bind s.part.rowOfRole) = some r →
      ((s.part.row r).station.val ≠ 0 →
        exec (.announce k f) s = .next { s with part := s.part.raiseFlag .duplicateRole }) ∧
      ((s.part.row r).station.val = 0 → (s.part.row r).learn = false →
        exec (.announce k f) s = .next { s with part := s.part.tally k countUnmapped }) ∧
      ((s.part.row r).station.val = 0 → (s.part.row r).learn = true → (s.part.row r).freeze = false →
        exec (.announce k f) s =
          .next { s with
            part := (s.part.setRow r { s.part.row r with station := n }).setUnit r
              { UnitRecord.init with
                state := .active
                expected := f.seq + 1
                last := some s.part.now
                silence := silenceTimer (s.part.row r) } })

/-- A silence timer that has counted its limit makes an ACTIVE unit LOST and leaves every other unit as it was; it
does no more than stop in a unit that is not ACTIVE. The loss of the time master starts the holdover timer of a LOCKED
time base, sets UNIT_LOST, and is recorded. The loss of the unit of a CLOSED feeder while the part stands down leaves its
position UNKNOWN, its group UNAVAILABLE, and the connected demand and headroom of every source as they were (how R59, R171
and R172 go together is the model's reading, log 44). That an expiry which is not due changes nothing is the model's
choice (log 7). -/
def Obligations.SilenceExpiryLosesAnActiveUnit : Prop :=
  ∀ (s : State) (r : Fin 32), s.calm →
    ((s.part.unit r).silence.due = false → exec (.silenceExpiry r) s = .next s) ∧
    ((s.part.unit r).silence.due = true → (s.part.unit r).state ≠ .active →
      exec (.silenceExpiry r) s =
        .next { s with part := s.part.setUnit r { s.part.unit r with silence := .stopped } }) ∧
    ((s.part.unit r).silence.due = true → (s.part.unit r).state = .active →
      let q := s.part.setUnit r { s.part.unit r with state := .lost, rejoin := 0, silence := .stopped }
      (∃ t, exec (.silenceExpiry r) s = .next t ∧ t.part.units = q.units ∧ t.part.unitMap = s.part.unitMap) ∧
      ((s.part.row r).role = .timeMaster → s.part.time.state = .locked →
        exec (.silenceExpiry r) s =
          .next { s with
            part := (({ q with
              time :=
                { q.time with
                  state := .holdover
                  holdover := .start (seconds q.time.settings.holdover) } }).raiseFlag .unitLost).recordFault
                (blankFault .unitLost) }) ∧
      ∀ g, (s.part.row r).role = .breaker (.feeder g) → (s.part.breaker (.feeder g)).position = .closed →
        s.part.feedingAgrees → s.part.stoodDown →
        ∃ t, exec (.silenceExpiry r) s = .next t ∧ t.work = [] ∧ t.pending = s.pending ∧
          (t.part.breaker (.feeder g)).position = .unknown ∧ t.part.groupState g = .unavailable ∧
          ∀ i, t.part.connectedDemand i = s.part.connectedDemand i ∧ t.part.headroom i = s.part.headroom i)

/-! ### Station time -/

/-- A TIME frame before lock: a target beyond 48 bits is only counted; in UNSYNCED time is stepped and the state is
LOCKING; in LOCKING an error within the lock band locks and is slewed, and another is stepped. The fields that
describe a slew follow logs 3 and 22. -/
def Obligations.TimeFrameBeforeLock : Prop :=
  ∀ (s : State) (master : Stamp), s.serves → s.part.scheduleEmpty →
    let t := s.part.time
    let target := master.toNat + t.settings.transit
    let e : Int := (target : Int) - (t.now : Int)
    (2 ^ 48 - 1 < target →
      exec (.timeFrame master) s =
        .next { s with part := s.part.setTime { t with rangeTally := tick16 t.rangeTally } }) ∧
    (target ≤ 2 ^ 48 - 1 → t.state = .unsynced →
      exec (.timeFrame master) s =
        .next { s with part := s.part.setTime { (t.taken target).stepped target with state := .locking } }) ∧
    (target ≤ 2 ^ 48 - 1 → t.state = .locking → (t.settings.lockBand : Int) < e.natAbs →
      exec (.timeFrame master) s = .next { s with part := s.part.setTime ((t.taken target).stepped target) }) ∧
    (target ≤ 2 ^ 48 - 1 → t.state = .locking → (e.natAbs : Int) ≤ t.settings.lockBand →
      exec (.timeFrame master) s =
        .next { s with
          part := { s.part with
            time := { (t.taken target).slewing e s.part.freeCount with state := .locked, everLocked := true }
            freeCount := s.part.freeCount + 1 } })

/-- A TIME frame in LOCKED or HOLDOVER gives LOCKED: an error within the threshold is slewed; a larger one is stepped
while no entry and no plan is held, and else slewed within the limit with TIME_STEP_DEFERRED set. The fields that
describe a slew follow logs 3 and 22. -/
def Obligations.TimeFrameWhileLocked : Prop :=
  ∀ (s : State) (master : Stamp), s.serves → s.part.schedule.held = [] →
    s.part.time.state = .locked ∨ s.part.time.state = .holdover →
    let t := s.part.time
    let target := master.toNat + t.settings.transit
    let e : Int := (target : Int) - (t.now : Int)
    let u : TimeBase :=
      { t.taken target with
        state := .locked
        holdover := if t.state = .holdover then .stopped else t.holdover }
    let slewed : Part :=
      { s.part with time := u.slewing e s.part.freeCount, freeCount := s.part.freeCount + 1 }
    target ≤ 2 ^ 48 - 1 →
    (e.natAbs ≤ t.settings.stepThreshold →
      exec (.timeFrame master) s =
        .next { s with part := slewed.setTime { slewed.time with stepDeferred := false } }) ∧
    (t.settings.stepThreshold < e.natAbs → s.part.quiet = true →
      exec (.timeFrame master) s = .next { s with part := s.part.setTime (u.stepped target) }) ∧
    (t.settings.stepThreshold < e.natAbs → s.part.quiet = false →
      exec (.timeFrame master) s =
        .next { s with
          part :=
            if t.stepDeferred then slewed.setTime { slewed.time with stepDeferred := true }
            else (slewed.setTime { slewed.time with stepDeferred := true }).raiseFlag .timeStepDeferred })

/-- The holdover timer leaves HOLDOVER for UNSYNCED with TIME_UNSYNCED set; an instant of a slew adds 1 µs or
withholds one count. One that is not due changes nothing. That an expiry which is not due changes nothing is the
model's choice (log 7). When an instant is due follows logs 3 and 22. -/
def Obligations.HoldoverAndSlewInstants : Prop :=
  ∀ s : State, s.calm →
    (s.part.time.holdover.due = false → exec .holdoverExpiry s = .next s) ∧
    (s.part.time.holdover.due = true → s.part.time.state = .holdover → s.part.noOpenAttempt = true →
      exec .holdoverExpiry s =
        .next { s with
          part := (s.part.setTime
            { s.part.time with state := .unsynced, holdover := .stopped, stepDeferred := false }).raiseFlag
              .timeUnsynced }) ∧
    (s.part.time.slewDue = false → exec .slewInstant s = .next s) ∧
    (s.part.time.slewDue = true → 0 < s.part.time.correction → s.part.scheduleEmpty →
      exec .slewInstant s =
        .next { s with
          part := (s.part.setTime { s.part.time with correction := s.part.time.correction - 1 }).count }) ∧
    (s.part.time.slewDue = true → s.part.time.correction ≤ 0 →
      exec .slewInstant s =
        .next { s with
          part := s.part.setTime
            { s.part.time with
              correction := s.part.time.correction + 1
              withhold := s.part.time.withhold + 1 } })

/-! ### Readings, sources and generators -/

/-- A reading that a test of R32 discards is counted in that test's tally, and nothing else changes. -/
def Obligations.DiscardedReadingsAreCounted : Prop :=
  ∀ (s : State) (pt : Point) (b : RawReading), s.serves →
    let q := s.part.point pt
    let isTest := b.test && !q.testAccept
    let isFuture := s.part.timeGood && decide (s.part.now + s.part.time.settings.futureStamp < b.stamp.toNat)
    (isTest = true →
      exec (.reading pt b) s =
        .next { s with part := s.part.setPoint pt { q with testTally := tick16 q.testTally } }) ∧
    (isTest = false → isFuture = true →
      exec (.reading pt b) s =
        .next { s with part := s.part.setPoint pt { q with futureTally := tick16 q.futureTally } }) ∧
    (isTest = false → isFuture = false → (∃ last, q.lastStamp = some last ∧ b.stamp.toNat ≤ last) →
      exec (.reading pt b) s = .next { s with part := s.part.setPoint pt { q with oldTally := tick16 q.oldTally } })

/-- An accepted reading of a source's point, while no plan is held and no attempt evaluates: one that is not VALID is
only stored while the point stays as it is, and a VALID one is stored and judged in the source's state. A change of state
judges the return timers, and an entry to FAILED is recorded; while the part stands down it also raises LOST for each bus
that the source alone feeds and that is not in LOCKOUT. -/
def Obligations.LineReadingsAreStoredAndJudged : Prop :=
  ∀ (s : State) (i : Src) (b : RawReading), s.serves → s.part.accepts (.line i) b = true → s.part.exec.plan = none →
    s.part.noOpenAttempt = true →
    let r := readingOf b
    let q := (s.part.point (.line i)).store r
    let stored := s.part.setPoint (.line i) q
    let judged := (s.part.source i).judge (s.part.srcSet i) r
    (b.valid = false → (s.part.point (.line i)).seen = false ∨ q.invalidRun < 3 →
      exec (.reading (.line i) b) s = .next { s with part := stored }) ∧
    (b.valid = true → judged.state = (s.part.source i).state →
      exec (.reading (.line i) b) s = .next { s with part := stored.setSource i judged }) ∧
    (b.valid = true → judged.state ≠ (s.part.source i).state → judged.state ≠ .failed →
      exec (.reading (.line i) b) s = .next { s with part := (stored.setSource i judged).judgeReturns }) ∧
    (b.valid = true → judged.state ≠ (s.part.source i).state → judged.state = .failed →
      let failed := ((stored.setSource i judged).recordFault
        { blankFault .sourceFailed with
          source := some i
          snapshots := [⟨.line i, r.stamp, r.magA, r.magB, r.magC, r.freq, r.angle⟩] }).judgeReturns
      let lose (x : Bus) (p : Part) : Part :=
        if (s.part.bus x).feed = .fed i ∧ (s.part.bus x).lockout = false then p.raised (.lost x) else p
      ((∀ x, (s.part.bus x).feed ≠ .fed i) → exec (.reading (.line i) b) s = .next { s with part := failed }) ∧
      (s.part.stoodDown → exec (.reading (.line i) b) s = .next { s with part := lose .b (lose .a failed) }))

/-- The judgement of a reading in its source's state: what each state makes of a DEAD, an IN-ACCEPT, an IN-HOLD and any
other reading. An OUT source is not judged. -/
def Obligations.ReadingsMoveSourcesBetweenStates : Prop :=
  ∀ (q : SourceRecord) (k : SourceSettings) (r : Reading),
    (q.state = .out → q.judge k r = q) ∧
    (q.state = .dead → isDead k r = true → q.judge k r = q) ∧
    (q.state = .dead → isDead k r = false →
      (q.judge k r).state = .rising ∧ (q.judge k r).pickup.isRunning = inAccept k r) ∧
    (q.state = .rising → isDead k r = true → (q.judge k r).state = .dead ∧ (q.judge k r).pickup = .stopped) ∧
    (q.state = .rising → isDead k r = false →
      (q.judge k r).state = .rising ∧ (q.judge k r).pickup.isRunning = inAccept k r) ∧
    (q.state = .healthy → inHold k r = true → q.judge k r = q) ∧
    (q.state = .healthy → inHold k r = false →
      (q.judge k r).state = .riding ∧
        (q.judge k r).excursion = some (Excursion.first (depthClass k r) r)) ∧
    (∀ e, q.state = .riding → q.excursion = some e → inHold k r = true → k.recovery ≤ e.run + 1 →
      (q.judge k r).state = .healthy ∧ (q.judge k r).excursion = none ∧ (q.judge k r).dips = tick16 q.dips) ∧
    (∀ e, q.state = .riding → q.excursion = some e → inHold k r = true → e.run + 1 < k.recovery →
      (q.judge k r).state = .riding ∧ (q.judge k r).excursion = some (e.recover r)) ∧
    (∀ e, q.state = .riding → q.excursion = some e → inHold k r = false →
      (q.judge k r).state =
        if (e.extend (depthClass k r) r).reached k r.stamp then .failed else .riding) ∧
    (q.state = .failed →
      (q.judge k r).state = if isDead k r then .dead else if inAccept k r then .rising else .failed) ∧
    (q.state = .blind →
      (q.judge k r).state = if isDead k r then .dead else if inAccept k r then .rising else .failed)

/-- A VALID reading of a bus point while the part stands down: it is stored, the bus takes the live state that its
magnitudes show, and a bus that becomes DEAD times its dead-confirm and notes its feed. Beyond that only the Load
Manager's records change. That a reading which meets both LIVE and DEAD shows LIVE is the model's choice (log 37). -/
def Obligations.BusReadingsGiveTheLiveState : Prop :=
  ∀ (s : State) (x : Bus) (b : RawReading), s.serves → s.part.stoodDown → s.part.accepts (.bus x) b = true →
    b.valid = true →
    let r := readingOf b
    let k := s.part.busSet x
    let old := s.part.bus x
    let shown : LiveState :=
      if k.live ≤ min r.magA (min r.magB r.magC) then .live
      else if max r.magA (max r.magB r.magC) ≤ k.dead then .dead
      else .part
    let new : BusRecord :=
      if shown = old.live then old
      else if shown = .dead then
        { old with live := shown, deadConfirm := .running 0 (k.deadConfirm * 1000), feedAtDead := old.feed }
      else { old with live := shown, deadConfirm := .stopped }
    ∃ t, exec (.reading (.bus x) b) s = .next t ∧ t.work = [] ∧ t.pending = s.pending ∧
      ((s.part.setPoint (.bus x) ((s.part.point (.bus x)).store r)).setBus x new).sameButLoad t.part

/-- A GENSTAT replaces the generator record of a GENERATOR source, with an eighths value above 8 taken as 8, and does
nothing for another. While the part stands down and no entry of the source is SENT, only the Load Manager's records
change besides, and those only where running or eighths changed. -/
def Obligations.GenstatReplacesTheGeneratorRecord : Prop :=
  ∀ (s : State) (i : Src) (b : GenReport), s.serves →
    let g : GenRecord := ⟨b.running, b.ready, min 8 b.eighths.toNat, b.startFailed⟩
    let q := s.part.setSource i { s.part.source i with gen := g }
    (s.part.kind i ≠ .generator → exec (.genstat i b) s = .next s) ∧
    (s.part.kind i = .generator → s.part.stoodDown → s.part.sentTo (.source i) = [] →
      (g.running = (s.part.source i).gen.running → g.eighths = (s.part.source i).gen.eighths →
        exec (.genstat i b) s = .next { s with part := q }) ∧
      ∃ t, exec (.genstat i b) s = .next t ∧ t.work = [] ∧ t.pending = s.pending ∧ q.sameButLoad t.part)

/-- A pickup timer that has counted its time makes a RISING source HEALTHY, and the return timers are judged. One that
has not changes nothing. The expiries of a bus's own timers. The unplanned-parallel timer marks the bus and sets its
condition; the dead-confirm timer raises LOST unless the bus is in LOCKOUT, was unfed when it went DEAD, or a plan is
held; the return timer raises RETURN and is judged again. One that is not due changes nothing. That an expiry which is
not due changes nothing is the model's choice (log 7). -/
def Obligations.SourceAndBusTimersExpire : Prop :=
  (∀ (s : State) (i : Src), s.calm →
     ((s.part.source i).pickup.due = false → exec (.pickupExpiry i) s = .next s) ∧
     ((s.part.source i).pickup.due = true → (s.part.source i).state = .rising → s.part.exec.plan = none →
       exec (.pickupExpiry i) s =
         .next { s with
           part := (s.part.setSource i { s.part.source i with state := .healthy, pickup := .stopped }).judgeReturns })) ∧
  ∀ (s : State) (x : Bus), s.calm →
    let r := s.part.bus x
    (r.unplanned.due = false → exec (.unplannedParallelExpiry x) s = .next s) ∧
    (r.unplanned.due = true →
      exec (.unplannedParallelExpiry x) s =
        .next { s with
          part := (s.part.setBus x { r with unplanned := .stopped, unplannedMark := true }).raiseFlag
            .unplannedParallel }) ∧
    (r.deadConfirm.due = false → exec (.deadConfirmExpiry x) s = .next s) ∧
    (r.deadConfirm.due = true → r.lockout = true ∨ s.part.exec.state ≠ .idle ∨ r.feedAtDead = .unfed →
      exec (.deadConfirmExpiry x) s = .next { s with part := s.part.setBus x { r with deadConfirm := .stopped } }) ∧
    (r.deadConfirm.due = true → r.lockout = false → r.feedAtDead ≠ .unfed → s.part.stoodDown →
      exec (.deadConfirmExpiry x) s =
        .next { s with part := (s.part.setBus x { r with deadConfirm := .stopped }).raised (.lost x) }) ∧
    (r.returnTimer.due = false → exec (.returnTimerExpiry x) s = .next s) ∧
    (r.returnTimer.due = true → s.part.stoodDown →
      exec (.returnTimerExpiry x) s =
        .next { s with
          part := ((s.part.setBus x { r with returnTimer := .stopped }).judgeReturn x).raised (.retn x) })

/-! ### Breakers and buses -/

/-- A STATE frame while the part stands down with an empty schedule: flags, trip cause and echo are copied; the position
is taken only if two frames in a row show it, and feeding and the marks of the feeder's group then follow; an
opening so taken from CLOSED, TRAVEL or FAULTY is tallied, and recorded for an incomer or the coupler. A new BUSBAR trip
cause locks out each bus the breaker is on, with its condition and its record, and raises FAULT; LOST is raised for a
bus not in LOCKOUT that an incomer or the coupler opening, or on its way out, leaves unfed. No other breaker changes,
and beyond that only the Load Manager's records. That bus A comes before bus B where the coupler's BUSBAR trip locks out
both, in the order of the two BUS_FAULT records, is the model's choice (log 15). -/
def Obligations.StateReportsAreFiltered : Prop :=
  ∀ (s : State) (b : Breaker) (r : BreakerReport), s.serves → s.part.stoodDown → s.part.schedule.entries = [] →
    let old := s.part.breaker b
    let reported := positionOf r.position
    let taken := reported ≠ old.position ∧ old.lastReported = some r.position
    let opened := taken ∧ r.position = .opn ∧
      (old.position = .closed ∨ old.position = .travel ∨ old.position = .faulty)
    let wayOut := taken ∧ feedsBus b = true ∧ old.position = .closed ∧
      (r.position = .travel ∨ r.position = .faulty)
    let record : BreakerRecord :=
      { old with
        lastReported := some r.position
        ready := r.ready
        remote := r.remote
        withdrawn := r.withdrawn
        trip := r.trip
        echo := if r.echo = .noCommand then none else some (r.echoNum, r.echo)
        uncommanded := if opened then tick16 old.uncommanded else old.uncommanded }
    let p := s.part.setBreaker b record
    let q := if taken then p.setPosition b reported else p
    let source :=
      match b with
      | .incomer i => some i
      | _ => none
    let noted :=
      if opened ∧ feedsBus b = true then
        q.recordFault { blankFault .uncommandedOpen with breaker := some b, source := source }
      else q
    let fault (x : Bus) (p : Part) : Part :=
      if r.trip = .busbar ∧ old.trip ≠ .busbar ∧ s.part.onBus b x = true then
        (if (p.bus x).lockout = true then p
          else ((p.setBus x { p.bus x with lockout := true, returnTimer := .stopped }).raiseFlag
            .lockoutActive).recordFault
              { blankFault .busFault with
                breaker := some b
                bus := some (oneBus x)
                snapshots := s.part.snapshots (.bus x) }).raised (.fault x)
      else p
    let lose (x : Bus) (p : Part) : Part :=
      if (opened ∨ wayOut) ∧ (s.part.bus x).feed ≠ .unfed ∧ (s.part.bus x).feed ≠ .parallel ∧
          (q.bus x).feed = .unfed ∧ (p.bus x).lockout = false then p.raised (.lost x)
      else p
    ∃ t, exec (.stateReport b r) s = .next t ∧ t.work = [] ∧ t.pending = s.pending ∧
      t.part.breaker b = { record with position := if taken then reported else old.position } ∧
      (∀ c, c ≠ b → t.part.breaker c = s.part.breaker c) ∧
      (s.part.feedingAgrees → t.part.feedingAgrees) ∧
      (lose .b (lose .a (fault .b (fault .a noted)))).sameButLoad t.part

/-- What a hand-over makes SENT passed the send check: the Monitor blocks no such command, and its execute-at, if it has
one, leaves the minimum lead. So no CLOSE joins two sides that are both energised, except one of a SYNC step. -/
def Obligations.NoBlockedCommandIsSent : Prop :=
  ∀ (p : Part) (e : Entry), p.scheduleSound → e ∈ (handOver p).1.schedule.entries → e.sent = true →
    (∀ e0 ∈ p.schedule.entries, e0.num = e.num → e0.sent = false) →
    (e.executeAt = 0 ∨ p.now + p.schedule.settings.minLead ≤ e.executeAt) ∧
    ∀ b, e.target = .breaker b →
      p.blockCause b e.action e.owner = none ∧
      (e.action = .close → (∀ c t n, e.owner ≠ .attempt c t n) →
        ¬ (((p.sides b).1.any p.energised) = true ∧ ((p.sides b).2.any p.energised) = true))

/-! ### Requests: answers and writes -/

/-- IDENTIFY, READ_ROWS and a request outside the list are counted and answered, and a REQUEST from another role is only
tallied: nothing else changes. READ_ROWS is refused with VALUE for a table or a count out of range, with ROW for rows
that the table does not have, and else returns the rows. The transmit sequence that a frame carries, and the answer
after its request's effects, follow logs 6 and 28. That a READ_ROWS of table 15 shows itself already counted is the
model's choice (log 49), and what a row carries of a record follows log 32. -/
def Obligations.QuestionsAreOnlyAnswered : Prop :=
  ∀ (m : Sender) (s : State), s.serves → s.part.linkRests →
    exec (.identify m) s =
      .next { s with part := s.part.onlyAnswers m .done [.identity 416 1 s.part.link.straps] } ∧
    exec (.unknownRequest m) s = .next { s with part := s.part.onlyAnswers m (.refused .value) [] } ∧
    exec .foreignRequest s =
      .next { s with
        part := s.part.setManagement { s.part.management with foreign := tick16 s.part.management.foreign } } ∧
    (∀ table first count, tableRows table = none →
      exec (.readRows m table first count) s = .next { s with part := s.part.onlyAnswers m (.refused .value) [] }) ∧
    ∀ table first count n, tableRows table = some n →
      (count = 0 ∨ 8 < count →
        exec (.readRows m table first count) s = .next { s with part := s.part.onlyAnswers m (.refused .value) [] }) ∧
      (1 ≤ count → count ≤ 8 → first = 0 ∨ n < first + count - 1 →
        exec (.readRows m table first count) s = .next { s with part := s.part.onlyAnswers m (.refused .row) [] }) ∧
      (1 ≤ count → count ≤ 8 → 1 ≤ first → first + count - 1 ≤ n →
        exec (.readRows m table first count) s =
          .next { s with
            part := s.part.onlyAnswers m .done
              ((List.range count).filterMap (fun i => s.part.countRequest.readRow table (first + i))) })

/-- A write that fails one of its first tests is refused with that test's reason and changes nothing; one whose rows
fail is refused with the reason of the first row that does. The transmit sequence that a frame carries, and the answer
after its request's effects, follow logs 6 and 28. That a row of another table's form, or of another place's form in the
topology, fails with VALUE follows log 17. -/
def Obligations.RefusedWritesChangeNothing : Prop :=
  ∀ (m : Sender) (s : State) (first : Nat) (why : RefusedReason), s.serves → s.part.linkRests →
    let refusal : Host.Outcome State Fault Refusal :=
      .next { s with part := s.part.onlyAnswers m (.refused why) [] }
    (∀ table rows, s.part.writeRefusal table first rows.length = some why ∨
        (s.part.writeRefusal table first rows.length = none ∧ judgeRows (judgeLive table) first rows = .error why) →
      exec (.writeRows m table first rows) s = refusal) ∧
    (∀ rows, s.part.writeRefusal 1 first rows.length = some why → exec (.writeUnitMap m first rows) s = refusal) ∧
    (∀ rows, s.part.writeRefusal 2 first rows.length = some why ∨
        (s.part.writeRefusal 2 first rows.length = none ∧ topologyWithAll rows first s.part.topology = none ∧
          why = .value) →
      exec (.writeTopology m first rows) s = refusal) ∧
    (∀ rows, s.part.writeRefusal 3 first rows.length = some why ∨
        (s.part.writeRefusal 3 first rows.length = none ∧ judgeRows judgeTemplateRow first rows = .error why) →
      exec (.writeTemplates m first rows) s = refusal) ∧
    (∀ rows, s.part.writeRefusal 4 first rows.length = some why ∨
        (s.part.writeRefusal 4 first rows.length = none ∧ judgeRows judgeCandidates first rows = .error why) →
      exec (.writeCandidateLists m first rows) s = refusal) ∧
    (∀ rows, s.part.writeRefusal 9 first rows.length = some why ∨
        (s.part.writeRefusal 9 first rows.length = none ∧ judgeRows judgeSource first rows = .error why) →
      exec (.writeSourceSettings m first rows) s = refusal) ∧
    (∀ rows, s.part.writeRefusal 10 first rows.length = some why →
      exec (.writeBreakerSettings m first rows) s = refusal) ∧
    (∀ rows, s.part.writeRefusal 13 first rows.length = some why ∨
        (s.part.writeRefusal 13 first rows.length = none ∧ judgeRows judgeBus first rows = .error why) →
      exec (.writeBusSettings m first rows) s = refusal) ∧
    (∀ rows, s.part.writeRefusal 14 first rows.length = some why ∨
        (s.part.writeRefusal 14 first rows.length = none ∧ judgeRows judgeGroup first rows = .error why) →
      exec (.writeGroupTable m first rows) s = refusal) ∧
    ∀ rows, s.part.writeRefusal 6 first rows.length = some why ∨
        (s.part.writeRefusal 6 first rows.length = none ∧ judgeRows judgeTallies first rows = .error why) →
      exec (.clearPortTallies m first rows) s = refusal

/-- A write that passes its tests lays its rows, brought into range, over its table and is answered DONE or CLAMPED. A
service limit written is judged at once. Nothing else changes. The transmit sequence that a frame carries, and the answer
after its request's effects, follow logs 6 and 28. -/
def Obligations.WritesReplaceTheirRows : Prop :=
  ∀ (m : Sender) (s : State) (first : Nat) (refs : List FieldRef), s.serves → s.part.linkRests →
    let p := s.part.countRequest
    let a := appliedAnswer refs
    (∀ rows ts, s.part.writeRefusal 3 first rows.length = none →
      judgeRows judgeTemplateRow first rows = .ok (ts, refs) →
      exec (.writeTemplates m first rows) s =
        .next { s with
          part := ({ p with templates := overlay (fun _ r => r) ts (first - 1) p.templates }).answerWith m a [] }) ∧
    (∀ rows ls, s.part.writeRefusal 4 first rows.length = none →
      judgeRows judgeCandidates first rows = .ok (ls, refs) →
      exec (.writeCandidateLists m first rows) s =
        .next { s with
          part := ({ p with candidates := overlay (fun _ r => r) ls (first - 1) p.candidates }).answerWith m a [] }) ∧
    (∀ rows ks, s.part.writeRefusal 10 first rows.length = none →
      judgeRows judgeBreaker first rows = .ok (ks, refs) →
      let q := { p with breakerSettings := overlay (fun _ r => r) ks (first - 1) p.breakerSettings }
      let due := allBreakers.any (fun b => within first (first + ks.length - 1) b.number && q.serviceDueAt b)
      exec (.writeBreakerSettings m first rows) s =
        .next { s with part := (if due then q.raiseFlag .serviceDue else q).answerWith m a [] }) ∧
    (∀ rows ts, s.part.writeRefusal 6 first rows.length = none →
      judgeRows judgeTallies first rows = .ok (ts, refs) →
      exec (.clearPortTallies m first rows) s =
        .next { s with part := (clearTallies first ts.length p).answerWith m a [] }) ∧
    ∀ table rows ks, s.part.writeRefusal table first rows.length = none →
      judgeRows (judgeLive table) first rows = .ok (ks, refs) → s.part.scheduleEmpty →
      exec (.writeRows m table first rows) s =
        .next { s with part := (applyLives ks first p).answerWith m a [] }

/-- A write of source settings, of bus settings, of the group table or of the topology while the part stands down
replaces its rows, with the return timers judged by bus settings, and a topology's effects on source state and feeding;
beyond that only the Load Manager's records change. The transmit sequence that a frame carries, and the answer after its
request's effects, follow logs 6 and 28. Which writes reach the Load Manager and the return timers follows log 16. -/
def Obligations.WritesThatReachTheLoadManager : Prop :=
  ∀ (m : Sender) (s : State) (first : Nat) (refs : List FieldRef), s.serves → s.part.linkRests → s.part.stoodDown →
    let p := s.part.countRequest
    let a := appliedAnswer refs
    (∀ rows ks, s.part.writeRefusal 9 first rows.length = none →
      judgeRows judgeSource first rows = .ok (ks, refs) →
      ∃ t, exec (.writeSourceSettings m first rows) s = .next t ∧ t.work = [] ∧ t.pending = s.pending ∧
        (({ p with
          sourceSettings := overlay (fun _ r => r) ks (first - 1) p.sourceSettings }).answerWith m a []).sameButLoad
            t.part) ∧
    (∀ rows ks, s.part.writeRefusal 13 first rows.length = none →
      judgeRows judgeBus first rows = .ok (ks, refs) →
      ∃ t, exec (.writeBusSettings m first rows) s = .next t ∧ t.work = [] ∧ t.pending = s.pending ∧
        (({ p with busSettings := busesWith ks first p.busSettings }).judgeReturns.answerWith m a []).sameButLoad
          t.part) ∧
    (∀ rows ks, s.part.writeRefusal 14 first rows.length = none →
      judgeRows judgeGroup first rows = .ok (ks, refs) →
      (rankRefusal (overlay groupWith ks (first - 1) p.groups) = some .duplicateRank →
        exec (.writeGroupTable m first rows) s =
          .next { s with part := s.part.onlyAnswers m (.refused .duplicateRank) [] }) ∧
      (rankRefusal (overlay groupWith ks (first - 1) p.groups) = none →
        ∃ t, exec (.writeGroupTable m first rows) s = .next t ∧ t.work = [] ∧ t.pending = s.pending ∧
          (({ p with groups := overlay groupWith ks (first - 1) p.groups }).answerWith m a []).sameButLoad t.part)) ∧
    ∀ rows top, s.part.writeRefusal 2 first rows.length = none →
      topologyWithAll rows first s.part.topology = some top →
      (topologyRefused top = true →
        exec (.writeTopology m first rows) s =
          .next { s with part := s.part.onlyAnswers m (.refused .value) [] }) ∧
      (topologyRefused top = false →
        ∃ t, exec (.writeTopology m first rows) s = .next t ∧ t.work = [] ∧ t.pending = s.pending ∧
          t.part.topology = top ∧
          (∀ x, (t.part.bus x).feed = t.part.feedBy x) ∧
          (∀ i, top.kind.get i = .unused → s.part.kind i ≠ .unused → (t.part.source i).state = .out) ∧
          ((applyTopology top p).1.answerWith m .done []).sameButLoad t.part)

/-- A write of the unit map that leaves no role and no station in two rows replaces its rows. A row whose binding it
changes has a fresh unit record. With every unit record fresh, nothing else changes. The transmit sequence that a
frame carries, and the answer after its request's effects, follow logs 6 and 28. -/
def Obligations.UnitMapWritesReplaceTheirRows : Prop :=
  ∀ (m : Sender) (s : State) (first : Nat) (rows ks : List UnitMapRow) (refs : List FieldRef), s.serves →
    s.part.linkRests → s.part.writeRefusal 1 first rows.length = none →
    judgeRows judgeUnitRow first rows = .ok (ks, refs) →
    let new := overlay (fun _ r => r) ks (first - 1) s.part.unitMap
    (∀ why, mapRefusal new = some why →
      exec (.writeUnitMap m first rows) s = .next { s with part := s.part.onlyAnswers m (.refused why) [] }) ∧
    (mapRefusal new = none →
      (∃ t, exec (.writeUnitMap m first rows) s = .next t ∧ t.part.unitMap = new ∧
        ∀ r, rowBound (s.part.row r) = true →
          (new.get r).station ≠ (s.part.row r).station ∨ (new.get r).role ≠ (s.part.row r).role →
          t.part.unit r = UnitRecord.init) ∧
      ((∀ r, s.part.unit r = UnitRecord.init) →
        exec (.writeUnitMap m first rows) s =
          .next { s with
            part := ({ s.part.countRequest with unitMap := new }).answerWith m (appliedAnswer refs) [] }))

/-! ### Requests: the run mode and the channels -/

/-- START is refused in AUTO, and in HALTED with the items of the configuration check that fail. Else the part is in
AUTO with RUN high and no halt requested; every writable table is kept but the port tallies, which count answers that are
replaced. With every channel's enable OFF, and no plan, attempt or guard left over, nothing is taken and START is answered
DONE: pending and engaged are cleared in every channel and its other fields kept, the return timer of each bus starts
again from zero or stops, and LOST is tallied for a bus that has a supply and is neither LIVE and fed nor in LOCKOUT;
beyond that only the Load Manager's records change. The transmit sequence that a frame carries, and the answer after its
request's effects, follow logs 6 and 28; the order of the failed items follows log 38. -/
def Obligations.StartEntersAuto : Prop :=
  ∀ (m : Sender) (s : State), s.serves →
    (s.part.arbiter.mode = .auto → s.part.linkRests →
      exec (.start m) s = .next { s with part := s.part.onlyAnswers m (.refused .mode) [] }) ∧
    (s.part.arbiter.mode = .halted → s.part.checkFailures ≠ [] → s.part.linkRests →
      exec (.start m) s =
        .next { s with
          part := s.part.onlyAnswers m (.refused .state) (s.part.checkFailures.map .checkItem) }) ∧
    (s.part.arbiter.mode = .halted → s.part.checkFailures = [] →
      ∃ t, exec (.start m) s = .next t ∧ t.part.arbiter.mode = .auto ∧ t.part.arbiter.runOut = true ∧
        t.part.arbiter.halt = false ∧
        t.part.unitMap = s.part.unitMap ∧ t.part.topology = s.part.topology ∧
        t.part.templates = s.part.templates ∧ t.part.candidates = s.part.candidates ∧
        t.part.link.addressing = s.part.link.addressing ∧ t.part.time = s.part.time ∧
        t.part.points = s.part.points ∧ t.part.sourceSettings = s.part.sourceSettings ∧
        t.part.breakerSettings = s.part.breakerSettings ∧ t.part.syncSettings = s.part.syncSettings ∧
        t.part.schedule.settings = s.part.schedule.settings ∧ t.part.busSettings = s.part.busSettings ∧
        t.part.groups = s.part.groups ∧
        t.part.management.statusPeriod = s.part.management.statusPeriod) ∧
    (s.part.checkFailures = [] → s.part.linkRests → s.part.stoodDown →
      (∀ c, (s.part.channel c).enable = false) →
      let p : Part :=
        { s.part.countRequest with
          arbiter := ⟨.auto, true, false, .none, false⟩
          channels :=
            mapAll (fun (r : ChannelRecord) => { r with pending := false, engaged := .no }) s.part.channels }
      let lose (x : Bus) (p : Part) : Part :=
        if (s.part.bus x).lockout = false ∧ s.part.hasSupply x = true ∧
            ((s.part.bus x).live ≠ .live ∨ (s.part.bus x).feed = .unfed) then p.raised (.lost x)
        else p
      let again (x : Bus) (p : Part) : Part := (p.setBus x { p.bus x with returnTimer := .stopped }).judgeReturn x
      ∃ t, exec (.start m) s = .next t ∧ t.work = [] ∧ t.pending = s.pending ∧
        ((lose .b (lose .a (again .b (again .a p)))).answerWith m .done []).sameButLoad t.part)

/-- HALT is refused in HALTED; with the executor IDLE the part is HALTED at once, with RUN low and no channel engaged;
with a plan aborting, halt requested is kept; with a plan running, the part is HALTED or has halt requested. The
transmit sequence that a frame carries, and the answer after its request's effects, follow logs 6 and 28. -/
def Obligations.HaltStopsThePart : Prop :=
  ∀ (m : Sender) (s : State), s.serves → s.part.linkRests →
    let p := s.part.countRequest
    (s.part.arbiter.mode = .halted →
      exec (.halt m) s = .next { s with part := s.part.onlyAnswers m (.refused .mode) [] }) ∧
    (s.part.arbiter.mode = .auto → s.part.arbiter.halt = true →
      exec (.halt m) s = .next { s with part := s.part.onlyAnswers m .done [] }) ∧
    (s.part.arbiter.mode = .auto → s.part.arbiter.halt = false → s.part.exec.state = .idle →
      exec (.halt m) s =
        .next { s with
          part := ({ p with
            arbiter := ⟨.halted, false, false, .none, p.arbiter.inStart⟩
            channels := mapAll (fun (r : ChannelRecord) => { r with engaged := .no }) p.channels }).answerWith m .done [] }) ∧
    (s.part.arbiter.mode = .auto → s.part.arbiter.halt = false → s.part.exec.state = .aborting →
      exec (.halt m) s =
        .next { s with
          part := ({ p with arbiter := { p.arbiter with halt := true } }).answerWith m .done [] }) ∧
    (s.part.arbiter.mode = .auto → s.part.arbiter.halt = false → s.part.exec.state = .running →
      ∃ t, exec (.halt m) s = .next t ∧ (t.part.arbiter.mode = .halted ∨ t.part.arbiter.halt = true))

/-- RESTART is refused with GUARD while a guard runs. Else it is answered, and then every block takes its RESTART
values: the settings, tables, straps, histories, faults and lockouts are kept, and plans, entries, readings and unit
records are gone. The transmit sequence of the answer follows log 6, and fields for which the rules give no value
logs 21 and 39. -/
def Obligations.RestartGivesRestartValues : Prop :=
  ∀ (m : Sender) (s : State), s.serves → s.part.linkRests →
    (s.part.guard.state ≠ .absent →
      exec (.restart m) s = .next { s with part := s.part.onlyAnswers m (.refused .guard) [] }) ∧
    (s.part.guard.state = .absent →
      ∃ t, exec (.restart m) s = .next t ∧ t.work = [] ∧ t.pending = s.pending ∧
        (s.part.onlyAnswers m .done []).restarted.sameButConditions t.part ∧
        t.part.unitMap = s.part.unitMap ∧ t.part.topology = s.part.topology ∧ t.part.templates = s.part.templates ∧
        t.part.link.straps = s.part.link.straps ∧ t.part.time.settings = s.part.time.settings ∧
        t.part.management.faults = s.part.management.faults ∧
        (∀ i, (t.part.source i).dips = (s.part.source i).dips) ∧
        (∀ x, (t.part.bus x).lockout = (s.part.bus x).lockout ∧ (t.part.bus x).feed = .unfed) ∧
        (∀ b, (t.part.breaker b).position = .unknown ∧ (t.part.breaker b).opCount = (s.part.breaker b).opCount) ∧
        (∀ pt, (t.part.point pt).seen = false) ∧ (∀ r, t.part.unit r = UnitRecord.init) ∧
        (∀ c, (t.part.channel c).pending = false ∧ (t.part.channel c).engaged = .no ∧
          (t.part.channel c).enable = (s.part.channel c).enable) ∧
        t.part.arbiter.mode = .halted ∧ t.part.arbiter.runOut = false ∧ t.part.exec.state = .idle ∧
        t.part.currentPlan = none ∧ t.part.attempt = none ∧ t.part.schedule.entries = [] ∧
        ∀ f, (t.part.condition f).set = t.part.standing f)

/-- TRANSFER, TEST and RESTORE_GROUP while the part stands down: a number out of range is refused; with the channel's
enable OFF the raise is only tallied and the request refused with STATE; else the template or group is noted and the
channel is pending. A group without its shed mark is refused with STATE. The transmit sequence that a frame carries,
and the answer after its request's effects, follow logs 6 and 28. -/
def Obligations.RequestsRaiseTheirChannels : Prop :=
  ∀ (m : Sender) (s : State) (n : Nat), s.serves → s.part.linkRests → s.part.stoodDown →
    let p := s.part.countRequest
    (n = 0 ∨ 24 < n →
      exec (.transfer m n) s = .next { s with part := s.part.onlyAnswers m (.refused .value) [] } ∧
      exec (.test m n) s = .next { s with part := s.part.onlyAnswers m (.refused .value) [] }) ∧
    (∀ (i : Fin 24) (c : Channel), n = i.val + 1 → (c = .operator ∨ c = .test) →
      exec (if c = .operator then .transfer m n else .test m n) s =
        .next { s with
          part :=
            if (p.channel c).enable then
              ((p.setChannel c { p.channel c with requested := some i }).raised c).answerWith m .done []
            else (p.raised c).answerWith m (.refused .state) [] }) ∧
    (n = 0 ∨ 16 < n →
      exec (.restoreGroup m n) s = .next { s with part := s.part.onlyAnswers m (.refused .row) [] }) ∧
    ∀ g : Grp, n = g.val + 1 →
      let y := p.groupBus g
      exec (.restoreGroup m n) s =
        .next { s with
          part :=
            if (p.group g).mark = false then p.answerWith m (.refused .state) []
            else if (p.channel (.restore y)).enable then
              ((p.setStage y { p.stage y with requested := some g }).raised (.restore y)).answerWith m .done []
            else (p.raised (.restore y)).answerWith m (.refused .state) [] }

/-- CONFIRM is refused with ROW for a number of no channel and with STATE for a channel that is not HELD; a HELD
channel is released, its last outcome as it was, and with no channel pending nothing is taken. SET_CHANNEL while the
part stands down sets the three fields of one channel; OFF ends pending, and SELF_RELEASE releases a HELD channel. A
number of no channel is refused with ROW. The transmit sequence that a frame carries, and the answer after its
request's effects, follow logs 6 and 28. -/
def Obligations.ConfirmAndSetChannel : Prop :=
  (∀ (m : Sender) (s : State), s.serves → s.part.linkRests →
     (∀ n, 11 < n → exec (.confirm m n) s = .next { s with part := s.part.onlyAnswers m (.refused .row) [] }) ∧
     ∀ c : Channel,
       ((s.part.channel c).engaged ≠ .held →
         exec (.confirm m c.idx.val) s = .next { s with part := s.part.onlyAnswers m (.refused .state) [] }) ∧
       ((s.part.channel c).engaged = .held → (∀ d, (s.part.channel d).pending = false) →
         exec (.confirm m c.idx.val) s =
           .next { s with
             part := (s.part.countRequest.setChannel c { s.part.channel c with engaged := .no }).answerWith m
               .done [] })) ∧
  ∀ (m : Sender) (s : State) (enable mask : Bool) (mode : CompletionMode), s.serves → s.part.linkRests →
    (∀ n, 11 < n →
      exec (.setChannel m n enable mask mode) s =
        .next { s with part := s.part.onlyAnswers m (.refused .row) [] }) ∧
    ∀ c : Channel, s.part.stoodDown →
      let r := s.part.channel c
      exec (.setChannel m c.idx.val enable mask mode) s =
        .next { s with
          part := (s.part.countRequest.setChannel c
            { r with
              enable := enable
              mask := mask
              mode := mode
              pending := r.pending && enable
              engaged := if r.engaged = .held ∧ mode = .selfRelease then .no else r.engaged }).answerWith m .done [] }

/-! ### Requests: conditions, faults, OPERATE, sources, buses and breakers -/

/-- ACK_CONDITIONS (R192). A name outside the twelve refuses it and clears nothing. Else every named flag is cleared,
and set again where its standing cause holds, with its time and tally; the answer lists those; no other flag and no
cause is touched. A later event sets a cleared flag again. The transmit sequence that a frame carries, and the answer
after its request's effects, follow logs 6 and 28. -/
def Obligations.AckClearsTheNamedConditions : Prop :=
  (∀ (m : Sender) (s : State) (flags : List (Option Flag)), s.serves → s.part.linkRests →
    (none ∈ flags →
      exec (.ackConditions m flags) s = .next { s with part := s.part.onlyAnswers m (.refused .value) [] }) ∧
    (none ∉ flags →
      ∃ t, exec (.ackConditions m flags) s = .next t ∧ t.work = [] ∧ t.pending = s.pending ∧
        (s.part.onlyAnswers m .done
          [.setAgain (allFlags.filter (fun f => flags.contains (some f) && s.part.standing f))]).sameButConditions
            t.part ∧
        (∀ f, some f ∉ flags → t.part.condition f = s.part.condition f) ∧
        (∀ f, some f ∈ flags → s.part.standing f = false →
          t.part.condition f = { s.part.condition f with set := false }) ∧
        (∀ f, some f ∈ flags → s.part.standing f = true →
          t.part.condition f = ⟨true, some s.part.now, min 65535 ((s.part.condition f).tally + 1)⟩) ∧
        ∀ f, t.part.standing f = s.part.standing f)) ∧
  (∀ p : Part, p.standing .capacityShort = p.capacityCauseStands) ∧
  ∀ (p : Part) (f : Flag), (p.condition f).set = false →
    (p.raiseFlag f).condition f = ⟨true, some p.now, min 65535 ((p.condition f).tally + 1)⟩

/-- The fault tallies and CLEAR_FAULTS (R194). A fault counts in its kind's tally, which stays at 255 and then sets
the overflow mark; table 25 shows them, one row a kind. CLEAR_FAULTS empties the log, the dropped count, the tallies
and the marks, and a later fault goes to the first slot; the condition flags are as before. POWER_ON empties the log,
and RESTART keeps it. The transmit sequence that a frame carries, and the answer after its request's effects, follow
logs 6 and 28. -/
def Obligations.ClearFaultsEmptiesTheLog : Prop :=
  (∀ (log : FaultLog) (r : FaultRecord) (i : Fin 14),
    let old := log.tallies.get i
    (log.record r).tallies.get i =
      if i = faultIdx r.kind then
        (if old.count < 255 then ⟨old.count + 1, old.overflow⟩ else ⟨old.count, true⟩)
      else old) ∧
  (∀ (m : Sender) (s : State), s.serves → s.part.linkRests →
    exec (.clearFaults m) s =
      .next { s with
        part := (s.part.countRequest.setManagement
          { s.part.countRequest.management with
            faults := ⟨none, none, 0, Vector.replicate 14 ⟨0, false⟩⟩ }).answerWith m .done [] }) ∧
  (∀ (p : Part) (i : Fin 14), p.readRow 25 (i.val + 1) = some (.faultTally (p.management.faults.tallies.get i))) ∧
  (∀ r : FaultRecord, (FaultLog.init.record r).first = some { r with repeats := 0 } ∧
    (FaultLog.init.record r).second = none ∧ (FaultLog.init.record r).dropped = 0) ∧
  (∀ straps, (Part.powerOn straps).management.faults = ⟨none, none, 0, Vector.replicate 14 ⟨0, false⟩⟩) ∧
  ∀ p : Part, p.restarted.management.faults = p.management.faults

/-- OPERATE is refused with MODE in AUTO, with ROW for no breaker, with VALUE for another action, and with STATE for a
full schedule. Else its entry takes a number and waits while a slot is not free. OPERATE with free slots and an empty
schedule, while time quality is POOR and the send check passes: the entry is SENT at once with execute-at 0, its
deadline runs for the operating time and the margin, its Command frame goes to the line multicast address on every port
that is UP, the operation is counted, and no other breaker's record changes.
The transmit sequence that a frame carries, and the answer after its request's effects, follow logs 6 and 28. -/
def Obligations.OperateIsRefusedQueuedOrSent : Prop :=
  (∀ (m : Sender) (s : State) (n : Nat) (a : Option Action), s.serves → s.part.linkRests →
     let p := s.part.countRequest
     (s.part.arbiter.mode = .auto →
       exec (.operate m n a) s = .next { s with part := s.part.onlyAnswers m (.refused .mode) [] }) ∧
     (s.part.arbiter.mode = .halted → n = 0 ∨ 21 < n →
       exec (.operate m n a) s = .next { s with part := s.part.onlyAnswers m (.refused .row) [] }) ∧
     ∀ b : Breaker, s.part.arbiter.mode = .halted → n = b.number →
       (a ≠ some .opn → a ≠ some .close →
         exec (.operate m n a) s = .next { s with part := s.part.onlyAnswers m (.refused .value) [] }) ∧
       ∀ act : Action, a = some act → (act = .opn ∨ act = .close) →
         (16 ≤ s.part.schedule.entries.length →
           exec (.operate m n a) s =
             .next { s with part := s.part.onlyAnswers m (.refused .state) [.scheduleFull] }) ∧
         (s.part.schedule.entries = [] → s.part.slotsFree = false →
           let num := p.nextNumber (.breaker b)
           let e : Entry :=
             { num := num
               target := .breaker b
               action := act
               executeAt := if p.timeGood then p.now + p.schedule.settings.sendLead else 0
               owner := .management
               sent := false
               insertedAt := p.now
               horizon := p.schedule.settings.horizon
               dueSince := some p.now
               sendStamp := none
               late := false
               deadline := .stopped }
           exec (.operate m n a) s =
             .next { s with
               part := (p.setSchedule
                 { p.schedule with
                   entries := [e]
                   next := num + 1
                   tallies := { p.schedule.tallies with inserted := tick16 p.schedule.tallies.inserted } }).answerWith
                     m .done [.operated num false none] })) ∧
  ∀ (m : Sender) (s : State) (b : Breaker) (act : Action), s.serves → s.part.arbiter.mode = .halted →
    s.part.scheduleEmpty → s.part.slotsFree = true → s.part.timeGood = false → (act = .opn ∨ act = .close) →
    s.part.blockCause b act .management = none →
    ∃ t, exec (.operate m b.number (some act)) s = .next t ∧
      (∃ e, t.part.schedule.entries = [e] ∧ e.num = s.part.nextNumber (.breaker b) ∧ e.target = .breaker b ∧
        e.action = act ∧ e.executeAt = 0 ∧ e.owner = .management ∧ e.sent = true ∧
        e.sendStamp = some s.part.now ∧ e.late = false ∧
        e.deadline = .running 0
          ((if act = .close then (s.part.brkSet b).tc else (s.part.brkSet b).topen) +
            (s.part.brkSet b).margin * 1000)) ∧
      (let f : CommandFrame :=
        ⟨⟨.line, s.part.link.straps, s.part.link.txSeq, s.part.now⟩, s.part.nextNumber (.breaker b), .breaker b, act, 0⟩
       ∀ k, (s.part.port k).up = true →
        if (s.part.port k).sending = none then (t.part.port k).sending = some (.command f)
        else (t.part.port k).command = some f) ∧
      t.part.schedule.tallies.sent = tick16 s.part.schedule.tallies.sent ∧
      t.part.breaker b = { s.part.breaker b with opCount := tick16 (s.part.breaker b).opCount } ∧
      ∀ c, c ≠ b → t.part.breaker c = s.part.breaker c

/-- SOURCE_SERVICE: out is refused with ROW, and with IN_USE while the source feeds a bus; else the source is OUT with
its timer stopped and its excursion ABANDONED. In is refused with ROW, and with STATE for an UNUSED source; else an
OUT source is DEAD or BLIND as its point is. The return timers are judged; nothing else changes. RESET_BREAKER is
refused with ROW for no breaker; a NORMAL breaker is as it was; a FAILED one is NORMAL again, and while the part
stands down only the Load Manager's records change besides. The transmit sequence that a frame carries, and the answer
after its request's effects, follow logs 6 and 28. That RESET_BREAKER reaches the Load Manager follows log 26. -/
def Obligations.ServiceRequestsMoveSourcesAndBreakers : Prop :=
  (∀ (m : Sender) (s : State) (n : Nat), s.serves → s.part.linkRests →
     let p := s.part.countRequest
     (n = 0 ∨ 4 < n →
       exec (.sourceServiceOut m n) s = .next { s with part := s.part.onlyAnswers m (.refused .row) [] } ∧
       exec (.sourceServiceIn m n) s = .next { s with part := s.part.onlyAnswers m (.refused .row) [] }) ∧
     ∀ i : Src, n = i.val + 1 →
       let q := p.source i
       exec (.sourceServiceOut m n) s =
         .next { s with
           part :=
             if (p.fedDomain i).a = true ∨ (p.fedDomain i).b = true then p.answerWith m (.refused .inUse) []
             else if q.state = .out then p.answerWith m .done []
             else
               (p.setSource i
                 { q with
                   state := .out
                   pickup := .stopped
                   excursion := none
                   history :=
                     match q.excursion with
                     | some e => addRecord (e.record .abandoned e.last) q.history
                     | none => q.history }).judgeReturns.answerWith m .done [] } ∧
       exec (.sourceServiceIn m n) s =
         .next { s with
           part :=
             if p.kind i = .unused then p.answerWith m (.refused .state) []
             else if q.state = .out then
               (p.setSource i
                 { q with state := if (p.point (.line i)).seen then .dead else .blind }).judgeReturns.answerWith m
                   .done []
             else p.answerWith m .done [] }) ∧
  ∀ (m : Sender) (s : State), s.serves → s.part.linkRests →
    let p := s.part.countRequest
    (∀ n, n = 0 ∨ 21 < n →
      exec (.resetBreaker m n) s = .next { s with part := s.part.onlyAnswers m (.refused .row) [] }) ∧
    ∀ b : Breaker,
      ((s.part.breaker b).failed = false →
        exec (.resetBreaker m b.number) s = .next { s with part := s.part.onlyAnswers m .done [] }) ∧
      ((s.part.breaker b).failed = true → s.part.stoodDown →
        ∃ t, exec (.resetBreaker m b.number) s = .next t ∧ t.work = [] ∧ t.pending = s.pending ∧
          ((p.setBreaker b { p.breaker b with failed := false }).answerWith m .done []).sameButLoad t.part)

/-- CLEAR_LOCKOUT (R70): refused with ROW for no bus (R185); answered DONE where there is no lockout; refused with
STATE while a breaker on the bus shows BUSBAR; else the lockout ends and the return timer of the bus is judged. No
LOST is raised and no dead-confirm timer starts: nothing else changes. The transmit sequence that a frame carries, and
the answer after its request's effects, follow logs 6 and 28. -/
def Obligations.ClearLockoutEndsALockout : Prop :=
  ∀ (m : Sender) (s : State) (x : Bus), s.serves → s.part.linkRests →
    let p := s.part.countRequest
    exec (.clearLockout m none) s = .next { s with part := s.part.onlyAnswers m (.refused .row) [] } ∧
    ((s.part.bus x).lockout = false →
      exec (.clearLockout m (some x)) s = .next { s with part := s.part.onlyAnswers m .done [] }) ∧
    ((s.part.bus x).lockout = true → (∃ b, s.part.onBus b x = true ∧ (s.part.breaker b).trip = .busbar) →
      exec (.clearLockout m (some x)) s = .next { s with part := s.part.onlyAnswers m (.refused .state) [] }) ∧
    ((s.part.bus x).lockout = true → (∀ b, s.part.onBus b x = true → (s.part.breaker b).trip ≠ .busbar) →
      exec (.clearLockout m (some x)) s =
        .next { s with
          part := ((p.setBus x { p.bus x with lockout := false }).judgeReturn x).answerWith m .done [] })

/-! ### Plan execution -/

/-- A DWELL step (R123). It starts the step timer with its time and waits in phase TIMER; one of 0 ms ends DONE at once.
When its timer expires the step ends DONE and the next begins; with a DWELL that follows, nothing else changes. -/
def Obligations.DwellStepsWaitTheirTime : Prop :=
  (∀ (p : Part) (serial step time : Nat), p.stepRuns serial step = true → p.exec.phase = none →
    p.currentStep = some (.dwell time) →
    runTask (.beginStep serial step) p =
      if time = 0 then (endStep .done p, [.nextStep serial step])
      else (p.setExec { p.exec with phase := some .timer, timer := .running 0 (time * 1000) }, [])) ∧
  (∀ (p : Part) (time : Nat), p.timerOut (.dwell time) →
    runTask .dwellExpiry p = (endStep .done p, [.nextStep p.exec.serial p.exec.step])) ∧
  ∀ (s : State) (time next : Nat) (pl : Plan), s.calm → s.part.timerOut (.dwell time) → s.part.exec.plan = some pl →
    pl.steps[s.part.exec.step]? = some (.dwell next) → next ≠ 0 → s.part.planSound pl →
    ∃ t, exec .dwellExpiry s = .next t ∧ t.work = [] ∧ t.pending = s.pending ∧
      s.part.movedOn .done (next * 1000) t.part

/-- The timer of a WAITDEAD step that goes on past it ends the step SKIPPED, and a DWELL that follows begins. One that
is not due changes nothing. The timer of a WAITHEALTHY step, or of a WAITDEAD step that does not go on, fails the step
and the plan with WAIT_TIMEOUT, which is recorded and becomes the channel's last outcome; with a guard running the
plan does not end yet, and nothing else changes. That an expiry which is not due changes nothing is the model's choice
(log 7). -/
def Obligations.WaitTimersSkipOrFail : Prop :=
  ((∀ s : State, s.calm → s.part.exec.timer.due = false → exec .waitdeadTimeout s = .next s) ∧
   ∀ (s : State) (pt : Point) (limit next : Nat) (pl : Plan), s.calm → s.part.timerOut (.waitDead pt limit true) →
     s.part.exec.plan = some pl → pl.steps[s.part.exec.step]? = some (.dwell next) → next ≠ 0 → s.part.planSound pl →
     ∃ t, exec .waitdeadTimeout s = .next t ∧ t.work = [] ∧ t.pending = s.pending ∧
       s.part.movedOn .skipped (next * 1000) t.part) ∧
  ∀ (s : State) (c : Channel) (pl : Plan), s.calm → s.part.exec.plan = some pl → s.part.planSound pl →
    s.part.runningChannel = some c → (∀ x, c ≠ .shed x ∧ c ≠ .restore x) → s.part.guard.state ≠ .absent →
    s.part.exec.outstanding = [] →
    let failed (f : FaultRecord) (t : State) : Prop :=
      t.work = [] ∧ t.pending = s.pending ∧
        t.part.planOutcome = some (.failed .waitTimeout) ∧
        (∃ r, t.part.planStep s.part.exec.step = some r ∧ r.outcome = some (.failed .waitTimeout) ∧
          r.ended = some s.part.now) ∧
        t.part.exec =
          { s.part.exec with state := .aborting, decided := true, phase := none, timer := .stopped } ∧
        t.part =
          { s.part.setChannel c { s.part.channel c with outcome := some (.failed .waitTimeout) } with
            exec := t.part.exec
            currentPlan := t.part.currentPlan
            management :=
              { s.part.management with
                faults := s.part.management.faults.record
                  { f with
                    time := s.part.now
                    channel := some pl.channel
                    template := some pl.template
                    step := some s.part.exec.step } } }
    (∀ i limit, s.part.timerOut (.waitHealthy i limit) →
      ∃ t, exec .waithealthyTimeout s = .next t ∧ failed { blankFault .waitTimeout with source := some i } t) ∧
    ∀ pt limit, s.part.timerOut (.waitDead pt limit false) →
      ∃ t, exec .waitdeadTimeout s = .next t ∧
        failed { blankFault .waitTimeout with snapshots := s.part.snapshots pt } t

/-- The guard timer of a RUNNING guard, with an empty schedule and no plan still running: the OPEN of the guard's target
is inserted and SENT in the same event, whatever the schedule's timing, the guard is TRIPPING, and PARALLEL_TIMEOUT is
recorded with its snapshots. A guard timer that is not due changes nothing. That an expiry which is not due changes
nothing is the model's choice (log 7). The transmit sequence follows log 6. That the record names A as the first watched
bus where both are watched is the model's choice (log 42). -/
def Obligations.GuardExpirySendsTheTrip : Prop :=
  ∀ s : State, s.calm →
    (s.part.guard.timer.due = false → exec .guardExpiry s = .next s) ∧
    (s.part.guard.timer.due = true → s.part.guard.state = .running → s.part.scheduleEmpty →
      s.part.exec.state ≠ .running →
      let g := s.part.guard
      let num := s.part.nextNumber (.breaker g.target)
      ∃ t, exec .guardExpiry s = .next t ∧
        t.part.guard = { g with state := .tripping, timer := .stopped, trip := some num } ∧
        (∃ e, t.part.schedule.entries = [e] ∧ e.num = num ∧ e.target = .breaker g.target ∧ e.action = .opn ∧
          e.executeAt = 0 ∧ e.owner = .guard g.serial ∧ e.sent = true ∧ e.sendStamp = some s.part.now) ∧
        t.part.management.faults =
          s.part.management.faults.record
            { blankFault .parallelTimeout with
              time := s.part.now
              channel := some g.channel
              template := some g.template
              breaker := some g.target
              bus := some (if g.watchA then .a else .b)
              snapshots := s.part.snapshots g.reference ++ s.part.snapshots g.incoming } ∧
        t.part.exec = s.part.exec ∧ t.part.channels = s.part.channels)

/-- The time limit of an attempt that is WAITING with no entry, with every channel closed: the attempt FAILED with
SYNC_TIMEOUT, its timer stops, the plan it belongs to is not running any more, and the fault is recorded. A timer that
is not due changes nothing. That an expiry which is not due changes nothing is the model's choice (log 7). -/
def Obligations.SyncTimeLimitFailsTheAttempt : Prop :=
  ∀ s : State, s.calm →
    (s.part.syncTimer.due = false → exec .syncTimeLimitExpiry s = .next s) ∧
    ∀ (a : AttemptRecord) (pl : Plan), s.part.syncTimer.due = true → s.part.attempt = some a → a.state = .waiting →
      a.entry = none → s.part.channelsClosed → s.part.guard.state = .absent → s.part.exec.plan = some pl →
      s.part.planSound pl → s.part.exec.state = .running → s.part.exec.phase = some .attempt →
      s.part.currentStep = some (.sync a.breaker a.reference a.incoming a.set) → s.part.exec.outstanding = [] →
      s.part.runningChannel = some .operator → s.part.arbiter.abort = .none →
      ∃ t, exec .syncTimeLimitExpiry s = .next t ∧ t.work = [] ∧
        t.part.attempt =
          some { a with state := .failed, reason := some .syncTimeout, ended := some s.part.now } ∧
        t.part.syncTimer = .stopped ∧ t.part.exec.state = .idle ∧
        t.part.planOutcome = some (.failed .syncTimeout) ∧
        (t.part.channel .operator).outcome = some (.failed .syncTimeout) ∧
        t.part.management.faults =
          s.part.management.faults.record
            { blankFault .syncTimeout with
              time := s.part.now
              channel := some pl.channel
              template := some pl.template
              step := some s.part.exec.step
              breaker := some a.breaker } ∧
        t.part.schedule = s.part.schedule ∧ t.part.breakers = s.part.breakers

/-! ### The command schedule -/

/-- An entry whose time to be sent is reached joins the send line with now as its due since; with the slots not free
and no trip in the line it waits there, and nothing else changes. Where no QUEUED entry of that number newly comes
due, nothing changes. The deadline of a SENT entry that an OPERATE placed: UNCONFIRMED while its unit is not ACTIVE,
with no other effect than its tally and its row; TIMED_OUT otherwise, and then, while the part stands down, its
breaker is FAILED with BREAKER_FAILED set and BREAKER_TIMEOUT recorded, and only the Load Manager's records change
besides. That an expiry which is not due changes nothing is the model's choice (log 7). -/
def Obligations.EntriesComeDueAndTimeOut : Prop :=
  (∀ (s : State) (num : CmdNum), s.calm →
     ((∀ e, s.part.entry num = some e →
         e.sent = true ∨ e.dueSince.isSome = true ∨ s.part.now + s.part.schedule.settings.sendLead < e.executeAt) →
       exec (.entryDue num) s = .next s) ∧
     ∀ e, s.part.entry num = some e → e.sent = false → e.dueSince = none →
       e.executeAt ≤ s.part.now + s.part.schedule.settings.sendLead → s.part.scheduleSound →
       s.part.slotsFree = false → (∀ e' ∈ s.part.schedule.entries, e'.isGuard = false) →
       ∃ t, exec (.entryDue num) s = .next t ∧ t.work = [] ∧ t.pending = s.pending ∧
         t.part.entry num = some { e with dueSince := some s.part.now } ∧
         t.part.schedule.entries.map (fun e => { e with dueSince := none }) =
           s.part.schedule.entries.map (fun e => { e with dueSince := none }) ∧
         t.part =
           { s.part with schedule := { s.part.schedule with entries := t.part.schedule.entries } }) ∧
  ∀ (s : State) (num : CmdNum) (e : Entry), s.calm → s.part.entry num = some e →
    let p := s.part.dropEntry num
    let row (o : EntryOutcome) : OperateRow := ⟨e.num, e.target, e.action, e.insertedAt, e.sendStamp, e.late, o⟩
    let kept (o : EntryOutcome) : List OperateRow :=
      (p.management.operates ++ [row o]).drop ((p.management.operates ++ [row o]).length - 4)
    (e.sent = false ∨ e.deadline.due = false → exec (.operateDeadlineExpiry num) s = .next s) ∧
    (e.sent = true → e.deadline.due = true → e.owner = .management →
      s.part.roleActive (targetRole e.target) = false →
      exec (.operateDeadlineExpiry num) s =
        .next { s with
          part := { p with
            schedule :=
              { p.schedule with
                tallies := { p.schedule.tallies with unconfirmed := tick16 p.schedule.tallies.unconfirmed } }
            management := { p.management with operates := kept .unconfirmed } } }) ∧
    ∀ b, e.sent = true → e.deadline.due = true → e.owner = .management → e.target = .breaker b →
      s.part.roleActive (.breaker b) = true → s.part.stoodDown →
      ∃ t, exec (.operateDeadlineExpiry num) s = .next t ∧ t.work = [] ∧ t.pending = s.pending ∧
        (t.part.breaker b).failed = true ∧ (t.part.condition .breakerFailed).set = true ∧
        (({ p.setBreaker b { p.breaker b with failed := true } with
          schedule :=
            { p.schedule with tallies := { p.schedule.tallies with timedOut := tick16 p.schedule.tallies.timedOut } }
          management :=
            { p.management with
              faults := p.management.faults.record
                { blankFault .breakerTimeout with
                  time := s.part.now
                  breaker := some b
                  position := some (s.part.breaker b).position }
              operates := kept .timedOut } }).raiseFlag .breakerFailed).sameButLoad t.part

/-- Command numbers (R157). An accepted entry is given the first number from the next one on that no entry holds and that
its breaker's latest echo does not show; with at most 16 entries there is one; the next number is the one after it. A
retime keeps the number. -/
def Obligations.CommandNumbersAreFresh : Prop :=
  (∀ (p : Part) (target : Target), p.schedule.entries.length ≤ 16 →
    p.numberFree target (p.nextNumber target) = true ∧
    ∃ k : Nat, k < 256 ∧ p.nextNumber target = p.schedule.next + BitVec.ofNat 8 k ∧
      ∀ j < k, p.numberFree target (p.schedule.next + BitVec.ofNat 8 j) = false) ∧
  (∀ (p : Part) (target : Target) (n : CmdNum), p.numberFree target n = true ↔
    (∀ e ∈ p.schedule.entries, e.num ≠ n) ∧
      ∀ b, target = .breaker b → ∀ r, (p.breaker b).echo ≠ some (n, r)) ∧
  (∀ (p q : Part) (target : Target) (a : Action) (o : Owner) (timed : Option Nat) (num : CmdNum),
    p.insertEntry target a o timed = .ok (q, num) →
    num = p.nextNumber target ∧ q.schedule.next = num + 1 ∧
      ∃ e ∈ q.schedule.entries, e.num = num ∧ e.target = target ∧ e.action = a ∧ e.owner = o) ∧
  ∀ (p q : Part) (num : CmdNum) (time : Nat), p.retimeEntry num time = some q →
    q.schedule.next = p.schedule.next ∧ ∃ e ∈ q.schedule.entries, e.num = num ∧ e.executeAt = time

/-! ### Synchronised closing -/

/-- The angle difference (R145). It is the incoming angle less the reference angle modulo 3600, in 0–3599; its signed form
is that number up to 1799 and that number less 3600 above. A signed −300 is an incoming side 30 degrees behind. An
evaluation that reaches the fifth stage keeps the signed form, judges a standing angle by it, and takes the travel of a
slipping one from the number in 0–3599. -/
def Obligations.AngleDifferenceIsSigned : Prop :=
  (∀ θR θI : Nat, θR < 3600 → θI < 3600 →
    angleDifference θR θI < 3600 ∧ (angleDifference θR θI + θR) % 3600 = θI ∧
    -1800 ≤ signedAngle (angleDifference θR θI) ∧ signedAngle (angleDifference θR θI) ≤ 1799 ∧
    (angleDifference θR θI ≤ 1799 → signedAngle (angleDifference θR θI) = angleDifference θR θI) ∧
    (1799 < angleDifference θR θI → signedAngle (angleDifference θR θI) = (angleDifference θR θI : Int) - 3600) ∧
    (signedAngle (angleDifference θR θI) = -300 ↔ (θI + 300) % 3600 = θR)) ∧
  ∀ (k : SyncSettings) (i : EvalInputs) (r q : Reading) (t0 δ : Nat) (slip : Int),
    t0 = max r.stamp q.stamp → δ = angleDifference (alignedAngle r t0) (alignedAngle q t0) →
    slip = (q.freq : Int) - (r.freq : Int) → ((q.magA : Int) - (r.magA : Int)).natAbs ≤ k.dVmax →
    slip.natAbs ≤ k.slipMax → (k.direction = .incomingFaster → 0 < slip) →
    (evaluatePair k i r q).delta = some (signedAngle δ) ∧
    (slip.natAbs < k.slipMin → k.angleMax < (signedAngle δ).natAbs →
      (evaluatePair k i r q).result = .notReady .angle) ∧
    (slip.natAbs < k.slipMin → (signedAngle δ).natAbs ≤ k.angleMax →
      (evaluatePair k i r q).tc = some ((i.now + i.minLead : Nat) : Int)) ∧
    (k.slipMin ≤ slip.natAbs → 0 < slip → (evaluatePair k i r q).travel = some ((3600 - δ) % 3600)) ∧
    (k.slipMin ≤ slip.natAbs → slip < 0 → (evaluatePair k i r q).travel = some δ)

/-- The close instant of a slipping pair is the first of its crossings, one period apart, that leaves the minimum lead. -/
def Obligations.NextCycleIsTheFirstInTime : Prop :=
  ∀ tc period earliest : Int, 0 < period →
    earliest ≤ nextCycle tc period earliest ∧ tc ≤ nextCycle tc period earliest ∧
    (∃ n : Nat, nextCycle tc period earliest = tc + n * period) ∧
    ∀ n : Nat, earliest ≤ tc + n * period → nextCycle tc period earliest ≤ tc + n * period

/-! ### Selection and load -/

/-- A list is judged in order up to the first template that is chosen, and those after it are not judged. -/
def Obligations.TheFirstFitTemplateIsChosen : Prop :=
  ∀ (p : Part) (numbers : List (Fin 24)),
    (p.judgeList numbers).map (·.template) = numbers ∧
    (chosenOf (p.judgeList numbers) =
      numbers.find? (fun n => (p.judgeTemplate (p.template n)).1 == .chosen)) ∧
    ∀ (i : Nat) (c : Candidate), (p.judgeList numbers)[i]? = some c →
      (c.result = .notJudged ↔
        ∃ j < i, ∃ n, numbers[j]? = some n ∧ (p.judgeTemplate (p.template n)).1 = .chosen)

/-- The capacity fit sheds groups in ascending rank until the demand is within the capacity, and no further: it passes
just when the demand left is, and then shedding one group fewer would leave too much. -/
def Obligations.CapacityFitShedsNoMoreThanNeeded : Prop :=
  ∀ (p : Part) (buses : BusSet) (c : Nat),
    let fit := p.fit buses c
    let counted := allGrps.filter (fun g => setHas buses (p.groupBus g) && p.feederClosed g)
    let sheddable := p.byRank (counted.filter (fun g => p.breakerTest (.feeder g)))
    let total := (counted.map (fun g => (p.group g).demand)).sum
    fit.shed <+: sheddable ∧
    fit.final = total - (fit.shed.map (fun g => (p.group g).demand)).sum ∧
    (fit.pass = true ↔ fit.final ≤ c) ∧
    (fit.pass = false → fit.shed = sheddable) ∧
    ∀ front last, fit.shed = front ++ [last] → c < total - (front.map (fun g => (p.group g).demand)).sum

/-- A stage timer that has counted its dwell raises SHED, while the part stands down: the shed stage of a bus that
leads a source and is LIVE is RAISED with its timers stopped, and its restoration stage stops. One that is not due
changes nothing. That an expiry which is not due changes nothing is the model's choice (log 7). -/
def Obligations.StageTimersRaiseShed : Prop :=
  ∀ (s : State) (x : Bus), s.calm →
    let r := s.part.stage x
    let shed (t : State) : Prop :=
      t.work = [] ∧ t.pending = s.pending ∧
        t.part.stage x =
          { r with
            shed := .raised
            freqTimer := .stopped
            capTimer := .stopped
            restore := .stopped
            settle := .stopped
            stagger := .stopped
            raisedOn := none } ∧
        t.part.channel (.shed x) = (s.part.raised (.shed x)).channel (.shed x) ∧ s.part.sameButLoad t.part
    (r.freqTimer.due = false → exec (.frequencyStageExpiry x) s = .next s) ∧
    (r.capTimer.due = false → exec (.capacityStageExpiry x) s = .next s) ∧
    (s.part.stoodDown → (s.part.livelyLeads x).isSome = true →
      (r.freqTimer.due = true → ∃ t, exec (.frequencyStageExpiry x) s = .next t ∧ shed t) ∧
      (r.capTimer.due = true → ∃ t, exec (.capacityStageExpiry x) s = .next t ∧ shed t))

/-- The settle timer of a bus that goes on meeting the conditions of restoration starts the stagger timer. The stagger
timer then raises RESTORE for the restore candidate's bus, or blocks it: UNAVAILABLE, or NO_FIT where its demand is
above the headroom, with RESTORE_BLOCKED set and the stagger timer started again. Timers that are not due change
nothing. That an expiry which is not due changes nothing is the model's choice (log 7). -/
def Obligations.RestorationTimersBringLoadBack : Prop :=
  ∀ (s : State) (x : Bus), s.calm →
    let r := s.part.stage x
    let time := (s.part.busSet x).stagger * 1000000
    (r.settle.due = false → exec (.settleExpiry x) s = .next s) ∧
    (r.stagger.due = false → exec (.staggerExpiry x) s = .next s) ∧
    (s.part.stoodDown → s.part.restoreHolds x = true → s.part.frequencyCause x = false →
      s.part.overloaded x = false →
      (r.settle.due = true → r.restore = .settling →
        ∃ t, exec (.settleExpiry x) s = .next t ∧ t.work = [] ∧ t.pending = s.pending ∧
          (t.part.stage x).restore = .staggering ∧ (t.part.stage x).settle = .stopped ∧
          (t.part.stage x).stagger = .running 0 time ∧ s.part.sameButLoad t.part) ∧
      ∀ i g, r.stagger.due = true → r.restore = .staggering → s.part.leads x = some i →
        s.part.restoreCandidate i = some g →
        (s.part.groupState g ≠ .unavailable → ((s.part.group g).demand : Int) ≤ s.part.headroom i →
          ∃ t, exec (.staggerExpiry x) s = .next t ∧ t.work = [] ∧ t.pending = s.pending ∧
            (t.part.stage x).restore = .raised ∧ (t.part.stage x).raisedOn = some (s.part.groupBus g) ∧
            (t.part.stage x).lastCandidate = some g ∧ (t.part.stage x).block = .none ∧
            t.part.channel (.restore (s.part.groupBus g)) =
              (s.part.raised (.restore (s.part.groupBus g))).channel (.restore (s.part.groupBus g)) ∧
            s.part.sameButLoad t.part) ∧
        (s.part.groupState g = .unavailable ∨ s.part.headroom i < ((s.part.group g).demand : Int) →
          ∃ t, exec (.staggerExpiry x) s = .next t ∧ t.work = [] ∧ t.pending = s.pending ∧
            (t.part.stage x).restore = .staggering ∧ (t.part.stage x).stagger = .running 0 time ∧
            (t.part.stage x).lastCandidate = some g ∧
            (t.part.stage x).block =
              (if s.part.groupState g = .unavailable then .unavailable else .noFit) ∧
            (t.part.condition .restoreBlocked).set = true ∧ s.part.sameButLoad t.part))

/-! ### Status frames -/

/-- The status timer makes a Status frame of the part as it stands, on both ports, and starts again with the period in
force; nothing else changes. One that is not due changes nothing. That an expiry which is not due changes nothing is the
model's choice (log 7). The transmit sequence follows log 6. What the frame carries follows log 32. -/
def Obligations.StatusTimerSendsAStatusFrame : Prop :=
  ∀ s : State, s.calm →
    (s.part.management.statusTimer.due = false → exec .statusTimerExpiry s = .next s) ∧
    (s.part.management.statusTimer.due = true → s.part.linkRests →
      exec .statusTimerExpiry s = .next { s with part := s.part.statusSent })
end

