-- ==== Sys2Proof/Laws/State.lean ====
section
/-! SUPPORT. What each replacement of a record leaves as it was, one lemma for each field, and what reading a record
gives after one is replaced. -/

namespace Sys2Proof.Machine

/-! ### `Part.setUnit` -/

section

variable (p : Part) (i : Fin 32) (v : UnitRecord)

@[simp] theorem Part.setUnit_link : (p.setUnit i v).link = p.link := rfl
@[simp] theorem Part.setUnit_unitMap : (p.setUnit i v).unitMap = p.unitMap := rfl
@[simp] theorem Part.setUnit_time : (p.setUnit i v).time = p.time := rfl
@[simp] theorem Part.setUnit_points : (p.setUnit i v).points = p.points := rfl
@[simp] theorem Part.setUnit_sourceSettings : (p.setUnit i v).sourceSettings = p.sourceSettings := rfl
@[simp] theorem Part.setUnit_sources : (p.setUnit i v).sources = p.sources := rfl
@[simp] theorem Part.setUnit_breakerSettings : (p.setUnit i v).breakerSettings = p.breakerSettings := rfl
@[simp] theorem Part.setUnit_breakers : (p.setUnit i v).breakers = p.breakers := rfl
@[simp] theorem Part.setUnit_topology : (p.setUnit i v).topology = p.topology := rfl
@[simp] theorem Part.setUnit_busSettings : (p.setUnit i v).busSettings = p.busSettings := rfl
@[simp] theorem Part.setUnit_buses : (p.setUnit i v).buses = p.buses := rfl
@[simp] theorem Part.setUnit_fedDomains : (p.setUnit i v).fedDomains = p.fedDomains := rfl
@[simp] theorem Part.setUnit_arbiter : (p.setUnit i v).arbiter = p.arbiter := rfl
@[simp] theorem Part.setUnit_channels : (p.setUnit i v).channels = p.channels := rfl
@[simp] theorem Part.setUnit_templates : (p.setUnit i v).templates = p.templates := rfl
@[simp] theorem Part.setUnit_candidates : (p.setUnit i v).candidates = p.candidates := rfl
@[simp] theorem Part.setUnit_selection : (p.setUnit i v).selection = p.selection := rfl
@[simp] theorem Part.setUnit_exec : (p.setUnit i v).exec = p.exec := rfl
@[simp] theorem Part.setUnit_currentPlan : (p.setUnit i v).currentPlan = p.currentPlan := rfl
@[simp] theorem Part.setUnit_previousPlan : (p.setUnit i v).previousPlan = p.previousPlan := rfl
@[simp] theorem Part.setUnit_guard : (p.setUnit i v).guard = p.guard := rfl
@[simp] theorem Part.setUnit_syncSettings : (p.setUnit i v).syncSettings = p.syncSettings := rfl
@[simp] theorem Part.setUnit_attempt : (p.setUnit i v).attempt = p.attempt := rfl
@[simp] theorem Part.setUnit_syncTimer : (p.setUnit i v).syncTimer = p.syncTimer := rfl
@[simp] theorem Part.setUnit_schedule : (p.setUnit i v).schedule = p.schedule := rfl
@[simp] theorem Part.setUnit_groups : (p.setUnit i v).groups = p.groups := rfl
@[simp] theorem Part.setUnit_stages : (p.setUnit i v).stages = p.stages := rfl
@[simp] theorem Part.setUnit_management : (p.setUnit i v).management = p.management := rfl
@[simp] theorem Part.setUnit_freeCount : (p.setUnit i v).freeCount = p.freeCount := rfl

end

/-! ### `Part.setRow` -/

section

variable (p : Part) (i : Fin 32) (v : UnitMapRow)

@[simp] theorem Part.setRow_link : (p.setRow i v).link = p.link := rfl
@[simp] theorem Part.setRow_units : (p.setRow i v).units = p.units := rfl
@[simp] theorem Part.setRow_time : (p.setRow i v).time = p.time := rfl
@[simp] theorem Part.setRow_points : (p.setRow i v).points = p.points := rfl
@[simp] theorem Part.setRow_sourceSettings : (p.setRow i v).sourceSettings = p.sourceSettings := rfl
@[simp] theorem Part.setRow_sources : (p.setRow i v).sources = p.sources := rfl
@[simp] theorem Part.setRow_breakerSettings : (p.setRow i v).breakerSettings = p.breakerSettings := rfl
@[simp] theorem Part.setRow_breakers : (p.setRow i v).breakers = p.breakers := rfl
@[simp] theorem Part.setRow_topology : (p.setRow i v).topology = p.topology := rfl
@[simp] theorem Part.setRow_busSettings : (p.setRow i v).busSettings = p.busSettings := rfl
@[simp] theorem Part.setRow_buses : (p.setRow i v).buses = p.buses := rfl
@[simp] theorem Part.setRow_fedDomains : (p.setRow i v).fedDomains = p.fedDomains := rfl
@[simp] theorem Part.setRow_arbiter : (p.setRow i v).arbiter = p.arbiter := rfl
@[simp] theorem Part.setRow_channels : (p.setRow i v).channels = p.channels := rfl
@[simp] theorem Part.setRow_templates : (p.setRow i v).templates = p.templates := rfl
@[simp] theorem Part.setRow_candidates : (p.setRow i v).candidates = p.candidates := rfl
@[simp] theorem Part.setRow_selection : (p.setRow i v).selection = p.selection := rfl
@[simp] theorem Part.setRow_exec : (p.setRow i v).exec = p.exec := rfl
@[simp] theorem Part.setRow_currentPlan : (p.setRow i v).currentPlan = p.currentPlan := rfl
@[simp] theorem Part.setRow_previousPlan : (p.setRow i v).previousPlan = p.previousPlan := rfl
@[simp] theorem Part.setRow_guard : (p.setRow i v).guard = p.guard := rfl
@[simp] theorem Part.setRow_syncSettings : (p.setRow i v).syncSettings = p.syncSettings := rfl
@[simp] theorem Part.setRow_attempt : (p.setRow i v).attempt = p.attempt := rfl
@[simp] theorem Part.setRow_syncTimer : (p.setRow i v).syncTimer = p.syncTimer := rfl
@[simp] theorem Part.setRow_schedule : (p.setRow i v).schedule = p.schedule := rfl
@[simp] theorem Part.setRow_groups : (p.setRow i v).groups = p.groups := rfl
@[simp] theorem Part.setRow_stages : (p.setRow i v).stages = p.stages := rfl
@[simp] theorem Part.setRow_management : (p.setRow i v).management = p.management := rfl
@[simp] theorem Part.setRow_freeCount : (p.setRow i v).freeCount = p.freeCount := rfl

end

/-! ### `Part.setPoint` -/

section

variable (p : Part) (i : Point) (v : PointRecord)

@[simp] theorem Part.setPoint_link : (p.setPoint i v).link = p.link := rfl
@[simp] theorem Part.setPoint_unitMap : (p.setPoint i v).unitMap = p.unitMap := rfl
@[simp] theorem Part.setPoint_units : (p.setPoint i v).units = p.units := rfl
@[simp] theorem Part.setPoint_time : (p.setPoint i v).time = p.time := rfl
@[simp] theorem Part.setPoint_sourceSettings : (p.setPoint i v).sourceSettings = p.sourceSettings := rfl
@[simp] theorem Part.setPoint_sources : (p.setPoint i v).sources = p.sources := rfl
@[simp] theorem Part.setPoint_breakerSettings : (p.setPoint i v).breakerSettings = p.breakerSettings := rfl
@[simp] theorem Part.setPoint_breakers : (p.setPoint i v).breakers = p.breakers := rfl
@[simp] theorem Part.setPoint_topology : (p.setPoint i v).topology = p.topology := rfl
@[simp] theorem Part.setPoint_busSettings : (p.setPoint i v).busSettings = p.busSettings := rfl
@[simp] theorem Part.setPoint_buses : (p.setPoint i v).buses = p.buses := rfl
@[simp] theorem Part.setPoint_fedDomains : (p.setPoint i v).fedDomains = p.fedDomains := rfl
@[simp] theorem Part.setPoint_arbiter : (p.setPoint i v).arbiter = p.arbiter := rfl
@[simp] theorem Part.setPoint_channels : (p.setPoint i v).channels = p.channels := rfl
@[simp] theorem Part.setPoint_templates : (p.setPoint i v).templates = p.templates := rfl
@[simp] theorem Part.setPoint_candidates : (p.setPoint i v).candidates = p.candidates := rfl
@[simp] theorem Part.setPoint_selection : (p.setPoint i v).selection = p.selection := rfl
@[simp] theorem Part.setPoint_exec : (p.setPoint i v).exec = p.exec := rfl
@[simp] theorem Part.setPoint_currentPlan : (p.setPoint i v).currentPlan = p.currentPlan := rfl
@[simp] theorem Part.setPoint_previousPlan : (p.setPoint i v).previousPlan = p.previousPlan := rfl
@[simp] theorem Part.setPoint_guard : (p.setPoint i v).guard = p.guard := rfl
@[simp] theorem Part.setPoint_syncSettings : (p.setPoint i v).syncSettings = p.syncSettings := rfl
@[simp] theorem Part.setPoint_attempt : (p.setPoint i v).attempt = p.attempt := rfl
@[simp] theorem Part.setPoint_syncTimer : (p.setPoint i v).syncTimer = p.syncTimer := rfl
@[simp] theorem Part.setPoint_schedule : (p.setPoint i v).schedule = p.schedule := rfl
@[simp] theorem Part.setPoint_groups : (p.setPoint i v).groups = p.groups := rfl
@[simp] theorem Part.setPoint_stages : (p.setPoint i v).stages = p.stages := rfl
@[simp] theorem Part.setPoint_management : (p.setPoint i v).management = p.management := rfl
@[simp] theorem Part.setPoint_freeCount : (p.setPoint i v).freeCount = p.freeCount := rfl

end

/-! ### `Part.setSource` -/

section

variable (p : Part) (i : Src) (v : SourceRecord)

@[simp] theorem Part.setSource_link : (p.setSource i v).link = p.link := rfl
@[simp] theorem Part.setSource_unitMap : (p.setSource i v).unitMap = p.unitMap := rfl
@[simp] theorem Part.setSource_units : (p.setSource i v).units = p.units := rfl
@[simp] theorem Part.setSource_time : (p.setSource i v).time = p.time := rfl
@[simp] theorem Part.setSource_points : (p.setSource i v).points = p.points := rfl
@[simp] theorem Part.setSource_sourceSettings : (p.setSource i v).sourceSettings = p.sourceSettings := rfl
@[simp] theorem Part.setSource_breakerSettings : (p.setSource i v).breakerSettings = p.breakerSettings := rfl
@[simp] theorem Part.setSource_breakers : (p.setSource i v).breakers = p.breakers := rfl
@[simp] theorem Part.setSource_topology : (p.setSource i v).topology = p.topology := rfl
@[simp] theorem Part.setSource_busSettings : (p.setSource i v).busSettings = p.busSettings := rfl
@[simp] theorem Part.setSource_buses : (p.setSource i v).buses = p.buses := rfl
@[simp] theorem Part.setSource_fedDomains : (p.setSource i v).fedDomains = p.fedDomains := rfl
@[simp] theorem Part.setSource_arbiter : (p.setSource i v).arbiter = p.arbiter := rfl
@[simp] theorem Part.setSource_channels : (p.setSource i v).channels = p.channels := rfl
@[simp] theorem Part.setSource_templates : (p.setSource i v).templates = p.templates := rfl
@[simp] theorem Part.setSource_candidates : (p.setSource i v).candidates = p.candidates := rfl
@[simp] theorem Part.setSource_selection : (p.setSource i v).selection = p.selection := rfl
@[simp] theorem Part.setSource_exec : (p.setSource i v).exec = p.exec := rfl
@[simp] theorem Part.setSource_currentPlan : (p.setSource i v).currentPlan = p.currentPlan := rfl
@[simp] theorem Part.setSource_previousPlan : (p.setSource i v).previousPlan = p.previousPlan := rfl
@[simp] theorem Part.setSource_guard : (p.setSource i v).guard = p.guard := rfl
@[simp] theorem Part.setSource_syncSettings : (p.setSource i v).syncSettings = p.syncSettings := rfl
@[simp] theorem Part.setSource_attempt : (p.setSource i v).attempt = p.attempt := rfl
@[simp] theorem Part.setSource_syncTimer : (p.setSource i v).syncTimer = p.syncTimer := rfl
@[simp] theorem Part.setSource_schedule : (p.setSource i v).schedule = p.schedule := rfl
@[simp] theorem Part.setSource_groups : (p.setSource i v).groups = p.groups := rfl
@[simp] theorem Part.setSource_stages : (p.setSource i v).stages = p.stages := rfl
@[simp] theorem Part.setSource_management : (p.setSource i v).management = p.management := rfl
@[simp] theorem Part.setSource_freeCount : (p.setSource i v).freeCount = p.freeCount := rfl

end

/-! ### `Part.setBreaker` -/

section

variable (p : Part) (i : Breaker) (v : BreakerRecord)

@[simp] theorem Part.setBreaker_link : (p.setBreaker i v).link = p.link := rfl
@[simp] theorem Part.setBreaker_unitMap : (p.setBreaker i v).unitMap = p.unitMap := rfl
@[simp] theorem Part.setBreaker_units : (p.setBreaker i v).units = p.units := rfl
@[simp] theorem Part.setBreaker_time : (p.setBreaker i v).time = p.time := rfl
@[simp] theorem Part.setBreaker_points : (p.setBreaker i v).points = p.points := rfl
@[simp] theorem Part.setBreaker_sourceSettings : (p.setBreaker i v).sourceSettings = p.sourceSettings := rfl
@[simp] theorem Part.setBreaker_sources : (p.setBreaker i v).sources = p.sources := rfl
@[simp] theorem Part.setBreaker_breakerSettings : (p.setBreaker i v).breakerSettings = p.breakerSettings := rfl
@[simp] theorem Part.setBreaker_topology : (p.setBreaker i v).topology = p.topology := rfl
@[simp] theorem Part.setBreaker_busSettings : (p.setBreaker i v).busSettings = p.busSettings := rfl
@[simp] theorem Part.setBreaker_buses : (p.setBreaker i v).buses = p.buses := rfl
@[simp] theorem Part.setBreaker_fedDomains : (p.setBreaker i v).fedDomains = p.fedDomains := rfl
@[simp] theorem Part.setBreaker_arbiter : (p.setBreaker i v).arbiter = p.arbiter := rfl
@[simp] theorem Part.setBreaker_channels : (p.setBreaker i v).channels = p.channels := rfl
@[simp] theorem Part.setBreaker_templates : (p.setBreaker i v).templates = p.templates := rfl
@[simp] theorem Part.setBreaker_candidates : (p.setBreaker i v).candidates = p.candidates := rfl
@[simp] theorem Part.setBreaker_selection : (p.setBreaker i v).selection = p.selection := rfl
@[simp] theorem Part.setBreaker_exec : (p.setBreaker i v).exec = p.exec := rfl
@[simp] theorem Part.setBreaker_currentPlan : (p.setBreaker i v).currentPlan = p.currentPlan := rfl
@[simp] theorem Part.setBreaker_previousPlan : (p.setBreaker i v).previousPlan = p.previousPlan := rfl
@[simp] theorem Part.setBreaker_guard : (p.setBreaker i v).guard = p.guard := rfl
@[simp] theorem Part.setBreaker_syncSettings : (p.setBreaker i v).syncSettings = p.syncSettings := rfl
@[simp] theorem Part.setBreaker_attempt : (p.setBreaker i v).attempt = p.attempt := rfl
@[simp] theorem Part.setBreaker_syncTimer : (p.setBreaker i v).syncTimer = p.syncTimer := rfl
@[simp] theorem Part.setBreaker_schedule : (p.setBreaker i v).schedule = p.schedule := rfl
@[simp] theorem Part.setBreaker_groups : (p.setBreaker i v).groups = p.groups := rfl
@[simp] theorem Part.setBreaker_stages : (p.setBreaker i v).stages = p.stages := rfl
@[simp] theorem Part.setBreaker_management : (p.setBreaker i v).management = p.management := rfl
@[simp] theorem Part.setBreaker_freeCount : (p.setBreaker i v).freeCount = p.freeCount := rfl

end

/-! ### `Part.setBus` -/

section

variable (p : Part) (i : Bus) (v : BusRecord)

@[simp] theorem Part.setBus_link : (p.setBus i v).link = p.link := rfl
@[simp] theorem Part.setBus_unitMap : (p.setBus i v).unitMap = p.unitMap := rfl
@[simp] theorem Part.setBus_units : (p.setBus i v).units = p.units := rfl
@[simp] theorem Part.setBus_time : (p.setBus i v).time = p.time := rfl
@[simp] theorem Part.setBus_points : (p.setBus i v).points = p.points := rfl
@[simp] theorem Part.setBus_sourceSettings : (p.setBus i v).sourceSettings = p.sourceSettings := rfl
@[simp] theorem Part.setBus_sources : (p.setBus i v).sources = p.sources := rfl
@[simp] theorem Part.setBus_breakerSettings : (p.setBus i v).breakerSettings = p.breakerSettings := rfl
@[simp] theorem Part.setBus_breakers : (p.setBus i v).breakers = p.breakers := rfl
@[simp] theorem Part.setBus_topology : (p.setBus i v).topology = p.topology := rfl
@[simp] theorem Part.setBus_busSettings : (p.setBus i v).busSettings = p.busSettings := rfl
@[simp] theorem Part.setBus_fedDomains : (p.setBus i v).fedDomains = p.fedDomains := rfl
@[simp] theorem Part.setBus_arbiter : (p.setBus i v).arbiter = p.arbiter := rfl
@[simp] theorem Part.setBus_channels : (p.setBus i v).channels = p.channels := rfl
@[simp] theorem Part.setBus_templates : (p.setBus i v).templates = p.templates := rfl
@[simp] theorem Part.setBus_candidates : (p.setBus i v).candidates = p.candidates := rfl
@[simp] theorem Part.setBus_selection : (p.setBus i v).selection = p.selection := rfl
@[simp] theorem Part.setBus_exec : (p.setBus i v).exec = p.exec := rfl
@[simp] theorem Part.setBus_currentPlan : (p.setBus i v).currentPlan = p.currentPlan := rfl
@[simp] theorem Part.setBus_previousPlan : (p.setBus i v).previousPlan = p.previousPlan := rfl
@[simp] theorem Part.setBus_guard : (p.setBus i v).guard = p.guard := rfl
@[simp] theorem Part.setBus_syncSettings : (p.setBus i v).syncSettings = p.syncSettings := rfl
@[simp] theorem Part.setBus_attempt : (p.setBus i v).attempt = p.attempt := rfl
@[simp] theorem Part.setBus_syncTimer : (p.setBus i v).syncTimer = p.syncTimer := rfl
@[simp] theorem Part.setBus_schedule : (p.setBus i v).schedule = p.schedule := rfl
@[simp] theorem Part.setBus_groups : (p.setBus i v).groups = p.groups := rfl
@[simp] theorem Part.setBus_stages : (p.setBus i v).stages = p.stages := rfl
@[simp] theorem Part.setBus_management : (p.setBus i v).management = p.management := rfl
@[simp] theorem Part.setBus_freeCount : (p.setBus i v).freeCount = p.freeCount := rfl

end

/-! ### `Part.setChannel` -/

section

variable (p : Part) (i : Channel) (v : ChannelRecord)

@[simp] theorem Part.setChannel_link : (p.setChannel i v).link = p.link := rfl
@[simp] theorem Part.setChannel_unitMap : (p.setChannel i v).unitMap = p.unitMap := rfl
@[simp] theorem Part.setChannel_units : (p.setChannel i v).units = p.units := rfl
@[simp] theorem Part.setChannel_time : (p.setChannel i v).time = p.time := rfl
@[simp] theorem Part.setChannel_points : (p.setChannel i v).points = p.points := rfl
@[simp] theorem Part.setChannel_sourceSettings : (p.setChannel i v).sourceSettings = p.sourceSettings := rfl
@[simp] theorem Part.setChannel_sources : (p.setChannel i v).sources = p.sources := rfl
@[simp] theorem Part.setChannel_breakerSettings : (p.setChannel i v).breakerSettings = p.breakerSettings := rfl
@[simp] theorem Part.setChannel_breakers : (p.setChannel i v).breakers = p.breakers := rfl
@[simp] theorem Part.setChannel_topology : (p.setChannel i v).topology = p.topology := rfl
@[simp] theorem Part.setChannel_busSettings : (p.setChannel i v).busSettings = p.busSettings := rfl
@[simp] theorem Part.setChannel_buses : (p.setChannel i v).buses = p.buses := rfl
@[simp] theorem Part.setChannel_fedDomains : (p.setChannel i v).fedDomains = p.fedDomains := rfl
@[simp] theorem Part.setChannel_arbiter : (p.setChannel i v).arbiter = p.arbiter := rfl
@[simp] theorem Part.setChannel_templates : (p.setChannel i v).templates = p.templates := rfl
@[simp] theorem Part.setChannel_candidates : (p.setChannel i v).candidates = p.candidates := rfl
@[simp] theorem Part.setChannel_selection : (p.setChannel i v).selection = p.selection := rfl
@[simp] theorem Part.setChannel_exec : (p.setChannel i v).exec = p.exec := rfl
@[simp] theorem Part.setChannel_currentPlan : (p.setChannel i v).currentPlan = p.currentPlan := rfl
@[simp] theorem Part.setChannel_previousPlan : (p.setChannel i v).previousPlan = p.previousPlan := rfl
@[simp] theorem Part.setChannel_guard : (p.setChannel i v).guard = p.guard := rfl
@[simp] theorem Part.setChannel_syncSettings : (p.setChannel i v).syncSettings = p.syncSettings := rfl
@[simp] theorem Part.setChannel_attempt : (p.setChannel i v).attempt = p.attempt := rfl
@[simp] theorem Part.setChannel_syncTimer : (p.setChannel i v).syncTimer = p.syncTimer := rfl
@[simp] theorem Part.setChannel_schedule : (p.setChannel i v).schedule = p.schedule := rfl
@[simp] theorem Part.setChannel_groups : (p.setChannel i v).groups = p.groups := rfl
@[simp] theorem Part.setChannel_stages : (p.setChannel i v).stages = p.stages := rfl
@[simp] theorem Part.setChannel_management : (p.setChannel i v).management = p.management := rfl
@[simp] theorem Part.setChannel_freeCount : (p.setChannel i v).freeCount = p.freeCount := rfl

end

/-! ### `Part.setGroup` -/

section

variable (p : Part) (i : Grp) (v : GroupRow)

@[simp] theorem Part.setGroup_link : (p.setGroup i v).link = p.link := rfl
@[simp] theorem Part.setGroup_unitMap : (p.setGroup i v).unitMap = p.unitMap := rfl
@[simp] theorem Part.setGroup_units : (p.setGroup i v).units = p.units := rfl
@[simp] theorem Part.setGroup_time : (p.setGroup i v).time = p.time := rfl
@[simp] theorem Part.setGroup_points : (p.setGroup i v).points = p.points := rfl
@[simp] theorem Part.setGroup_sourceSettings : (p.setGroup i v).sourceSettings = p.sourceSettings := rfl
@[simp] theorem Part.setGroup_sources : (p.setGroup i v).sources = p.sources := rfl
@[simp] theorem Part.setGroup_breakerSettings : (p.setGroup i v).breakerSettings = p.breakerSettings := rfl
@[simp] theorem Part.setGroup_breakers : (p.setGroup i v).breakers = p.breakers := rfl
@[simp] theorem Part.setGroup_topology : (p.setGroup i v).topology = p.topology := rfl
@[simp] theorem Part.setGroup_busSettings : (p.setGroup i v).busSettings = p.busSettings := rfl
@[simp] theorem Part.setGroup_buses : (p.setGroup i v).buses = p.buses := rfl
@[simp] theorem Part.setGroup_fedDomains : (p.setGroup i v).fedDomains = p.fedDomains := rfl
@[simp] theorem Part.setGroup_arbiter : (p.setGroup i v).arbiter = p.arbiter := rfl
@[simp] theorem Part.setGroup_channels : (p.setGroup i v).channels = p.channels := rfl
@[simp] theorem Part.setGroup_templates : (p.setGroup i v).templates = p.templates := rfl
@[simp] theorem Part.setGroup_candidates : (p.setGroup i v).candidates = p.candidates := rfl
@[simp] theorem Part.setGroup_selection : (p.setGroup i v).selection = p.selection := rfl
@[simp] theorem Part.setGroup_exec : (p.setGroup i v).exec = p.exec := rfl
@[simp] theorem Part.setGroup_currentPlan : (p.setGroup i v).currentPlan = p.currentPlan := rfl
@[simp] theorem Part.setGroup_previousPlan : (p.setGroup i v).previousPlan = p.previousPlan := rfl
@[simp] theorem Part.setGroup_guard : (p.setGroup i v).guard = p.guard := rfl
@[simp] theorem Part.setGroup_syncSettings : (p.setGroup i v).syncSettings = p.syncSettings := rfl
@[simp] theorem Part.setGroup_attempt : (p.setGroup i v).attempt = p.attempt := rfl
@[simp] theorem Part.setGroup_syncTimer : (p.setGroup i v).syncTimer = p.syncTimer := rfl
@[simp] theorem Part.setGroup_schedule : (p.setGroup i v).schedule = p.schedule := rfl
@[simp] theorem Part.setGroup_stages : (p.setGroup i v).stages = p.stages := rfl
@[simp] theorem Part.setGroup_management : (p.setGroup i v).management = p.management := rfl
@[simp] theorem Part.setGroup_freeCount : (p.setGroup i v).freeCount = p.freeCount := rfl

end

/-! ### `Part.setStage` -/

section

variable (p : Part) (i : Bus) (v : LoadStage)

@[simp] theorem Part.setStage_link : (p.setStage i v).link = p.link := rfl
@[simp] theorem Part.setStage_unitMap : (p.setStage i v).unitMap = p.unitMap := rfl
@[simp] theorem Part.setStage_units : (p.setStage i v).units = p.units := rfl
@[simp] theorem Part.setStage_time : (p.setStage i v).time = p.time := rfl
@[simp] theorem Part.setStage_points : (p.setStage i v).points = p.points := rfl
@[simp] theorem Part.setStage_sourceSettings : (p.setStage i v).sourceSettings = p.sourceSettings := rfl
@[simp] theorem Part.setStage_sources : (p.setStage i v).sources = p.sources := rfl
@[simp] theorem Part.setStage_breakerSettings : (p.setStage i v).breakerSettings = p.breakerSettings := rfl
@[simp] theorem Part.setStage_breakers : (p.setStage i v).breakers = p.breakers := rfl
@[simp] theorem Part.setStage_topology : (p.setStage i v).topology = p.topology := rfl
@[simp] theorem Part.setStage_busSettings : (p.setStage i v).busSettings = p.busSettings := rfl
@[simp] theorem Part.setStage_buses : (p.setStage i v).buses = p.buses := rfl
@[simp] theorem Part.setStage_fedDomains : (p.setStage i v).fedDomains = p.fedDomains := rfl
@[simp] theorem Part.setStage_arbiter : (p.setStage i v).arbiter = p.arbiter := rfl
@[simp] theorem Part.setStage_channels : (p.setStage i v).channels = p.channels := rfl
@[simp] theorem Part.setStage_templates : (p.setStage i v).templates = p.templates := rfl
@[simp] theorem Part.setStage_candidates : (p.setStage i v).candidates = p.candidates := rfl
@[simp] theorem Part.setStage_selection : (p.setStage i v).selection = p.selection := rfl
@[simp] theorem Part.setStage_exec : (p.setStage i v).exec = p.exec := rfl
@[simp] theorem Part.setStage_currentPlan : (p.setStage i v).currentPlan = p.currentPlan := rfl
@[simp] theorem Part.setStage_previousPlan : (p.setStage i v).previousPlan = p.previousPlan := rfl
@[simp] theorem Part.setStage_guard : (p.setStage i v).guard = p.guard := rfl
@[simp] theorem Part.setStage_syncSettings : (p.setStage i v).syncSettings = p.syncSettings := rfl
@[simp] theorem Part.setStage_attempt : (p.setStage i v).attempt = p.attempt := rfl
@[simp] theorem Part.setStage_syncTimer : (p.setStage i v).syncTimer = p.syncTimer := rfl
@[simp] theorem Part.setStage_schedule : (p.setStage i v).schedule = p.schedule := rfl
@[simp] theorem Part.setStage_groups : (p.setStage i v).groups = p.groups := rfl
@[simp] theorem Part.setStage_management : (p.setStage i v).management = p.management := rfl
@[simp] theorem Part.setStage_freeCount : (p.setStage i v).freeCount = p.freeCount := rfl

end

/-! ### `Part.setPort` -/

section

variable (p : Part) (i : Port) (v : PortState)

@[simp] theorem Part.setPort_unitMap : (p.setPort i v).unitMap = p.unitMap := rfl
@[simp] theorem Part.setPort_units : (p.setPort i v).units = p.units := rfl
@[simp] theorem Part.setPort_time : (p.setPort i v).time = p.time := rfl
@[simp] theorem Part.setPort_points : (p.setPort i v).points = p.points := rfl
@[simp] theorem Part.setPort_sourceSettings : (p.setPort i v).sourceSettings = p.sourceSettings := rfl
@[simp] theorem Part.setPort_sources : (p.setPort i v).sources = p.sources := rfl
@[simp] theorem Part.setPort_breakerSettings : (p.setPort i v).breakerSettings = p.breakerSettings := rfl
@[simp] theorem Part.setPort_breakers : (p.setPort i v).breakers = p.breakers := rfl
@[simp] theorem Part.setPort_topology : (p.setPort i v).topology = p.topology := rfl
@[simp] theorem Part.setPort_busSettings : (p.setPort i v).busSettings = p.busSettings := rfl
@[simp] theorem Part.setPort_buses : (p.setPort i v).buses = p.buses := rfl
@[simp] theorem Part.setPort_fedDomains : (p.setPort i v).fedDomains = p.fedDomains := rfl
@[simp] theorem Part.setPort_arbiter : (p.setPort i v).arbiter = p.arbiter := rfl
@[simp] theorem Part.setPort_channels : (p.setPort i v).channels = p.channels := rfl
@[simp] theorem Part.setPort_templates : (p.setPort i v).templates = p.templates := rfl
@[simp] theorem Part.setPort_candidates : (p.setPort i v).candidates = p.candidates := rfl
@[simp] theorem Part.setPort_selection : (p.setPort i v).selection = p.selection := rfl
@[simp] theorem Part.setPort_exec : (p.setPort i v).exec = p.exec := rfl
@[simp] theorem Part.setPort_currentPlan : (p.setPort i v).currentPlan = p.currentPlan := rfl
@[simp] theorem Part.setPort_previousPlan : (p.setPort i v).previousPlan = p.previousPlan := rfl
@[simp] theorem Part.setPort_guard : (p.setPort i v).guard = p.guard := rfl
@[simp] theorem Part.setPort_syncSettings : (p.setPort i v).syncSettings = p.syncSettings := rfl
@[simp] theorem Part.setPort_attempt : (p.setPort i v).attempt = p.attempt := rfl
@[simp] theorem Part.setPort_syncTimer : (p.setPort i v).syncTimer = p.syncTimer := rfl
@[simp] theorem Part.setPort_schedule : (p.setPort i v).schedule = p.schedule := rfl
@[simp] theorem Part.setPort_groups : (p.setPort i v).groups = p.groups := rfl
@[simp] theorem Part.setPort_stages : (p.setPort i v).stages = p.stages := rfl
@[simp] theorem Part.setPort_management : (p.setPort i v).management = p.management := rfl
@[simp] theorem Part.setPort_freeCount : (p.setPort i v).freeCount = p.freeCount := rfl

end

/-! ### `Part.setTime` -/

section

variable (p : Part) (v : TimeBase)

@[simp] theorem Part.setTime_link : (p.setTime v).link = p.link := rfl
@[simp] theorem Part.setTime_unitMap : (p.setTime v).unitMap = p.unitMap := rfl
@[simp] theorem Part.setTime_units : (p.setTime v).units = p.units := rfl
@[simp] theorem Part.setTime_points : (p.setTime v).points = p.points := rfl
@[simp] theorem Part.setTime_sourceSettings : (p.setTime v).sourceSettings = p.sourceSettings := rfl
@[simp] theorem Part.setTime_sources : (p.setTime v).sources = p.sources := rfl
@[simp] theorem Part.setTime_breakerSettings : (p.setTime v).breakerSettings = p.breakerSettings := rfl
@[simp] theorem Part.setTime_breakers : (p.setTime v).breakers = p.breakers := rfl
@[simp] theorem Part.setTime_topology : (p.setTime v).topology = p.topology := rfl
@[simp] theorem Part.setTime_busSettings : (p.setTime v).busSettings = p.busSettings := rfl
@[simp] theorem Part.setTime_buses : (p.setTime v).buses = p.buses := rfl
@[simp] theorem Part.setTime_fedDomains : (p.setTime v).fedDomains = p.fedDomains := rfl
@[simp] theorem Part.setTime_arbiter : (p.setTime v).arbiter = p.arbiter := rfl
@[simp] theorem Part.setTime_channels : (p.setTime v).channels = p.channels := rfl
@[simp] theorem Part.setTime_templates : (p.setTime v).templates = p.templates := rfl
@[simp] theorem Part.setTime_candidates : (p.setTime v).candidates = p.candidates := rfl
@[simp] theorem Part.setTime_selection : (p.setTime v).selection = p.selection := rfl
@[simp] theorem Part.setTime_exec : (p.setTime v).exec = p.exec := rfl
@[simp] theorem Part.setTime_currentPlan : (p.setTime v).currentPlan = p.currentPlan := rfl
@[simp] theorem Part.setTime_previousPlan : (p.setTime v).previousPlan = p.previousPlan := rfl
@[simp] theorem Part.setTime_guard : (p.setTime v).guard = p.guard := rfl
@[simp] theorem Part.setTime_syncSettings : (p.setTime v).syncSettings = p.syncSettings := rfl
@[simp] theorem Part.setTime_attempt : (p.setTime v).attempt = p.attempt := rfl
@[simp] theorem Part.setTime_syncTimer : (p.setTime v).syncTimer = p.syncTimer := rfl
@[simp] theorem Part.setTime_schedule : (p.setTime v).schedule = p.schedule := rfl
@[simp] theorem Part.setTime_groups : (p.setTime v).groups = p.groups := rfl
@[simp] theorem Part.setTime_stages : (p.setTime v).stages = p.stages := rfl
@[simp] theorem Part.setTime_management : (p.setTime v).management = p.management := rfl
@[simp] theorem Part.setTime_freeCount : (p.setTime v).freeCount = p.freeCount := rfl

end

/-! ### `Part.setSchedule` -/

section

variable (p : Part) (v : Schedule)

@[simp] theorem Part.setSchedule_link : (p.setSchedule v).link = p.link := rfl
@[simp] theorem Part.setSchedule_unitMap : (p.setSchedule v).unitMap = p.unitMap := rfl
@[simp] theorem Part.setSchedule_units : (p.setSchedule v).units = p.units := rfl
@[simp] theorem Part.setSchedule_time : (p.setSchedule v).time = p.time := rfl
@[simp] theorem Part.setSchedule_points : (p.setSchedule v).points = p.points := rfl
@[simp] theorem Part.setSchedule_sourceSettings : (p.setSchedule v).sourceSettings = p.sourceSettings := rfl
@[simp] theorem Part.setSchedule_sources : (p.setSchedule v).sources = p.sources := rfl
@[simp] theorem Part.setSchedule_breakerSettings : (p.setSchedule v).breakerSettings = p.breakerSettings := rfl
@[simp] theorem Part.setSchedule_breakers : (p.setSchedule v).breakers = p.breakers := rfl
@[simp] theorem Part.setSchedule_topology : (p.setSchedule v).topology = p.topology := rfl
@[simp] theorem Part.setSchedule_busSettings : (p.setSchedule v).busSettings = p.busSettings := rfl
@[simp] theorem Part.setSchedule_buses : (p.setSchedule v).buses = p.buses := rfl
@[simp] theorem Part.setSchedule_fedDomains : (p.setSchedule v).fedDomains = p.fedDomains := rfl
@[simp] theorem Part.setSchedule_arbiter : (p.setSchedule v).arbiter = p.arbiter := rfl
@[simp] theorem Part.setSchedule_channels : (p.setSchedule v).channels = p.channels := rfl
@[simp] theorem Part.setSchedule_templates : (p.setSchedule v).templates = p.templates := rfl
@[simp] theorem Part.setSchedule_candidates : (p.setSchedule v).candidates = p.candidates := rfl
@[simp] theorem Part.setSchedule_selection : (p.setSchedule v).selection = p.selection := rfl
@[simp] theorem Part.setSchedule_exec : (p.setSchedule v).exec = p.exec := rfl
@[simp] theorem Part.setSchedule_currentPlan : (p.setSchedule v).currentPlan = p.currentPlan := rfl
@[simp] theorem Part.setSchedule_previousPlan : (p.setSchedule v).previousPlan = p.previousPlan := rfl
@[simp] theorem Part.setSchedule_guard : (p.setSchedule v).guard = p.guard := rfl
@[simp] theorem Part.setSchedule_syncSettings : (p.setSchedule v).syncSettings = p.syncSettings := rfl
@[simp] theorem Part.setSchedule_attempt : (p.setSchedule v).attempt = p.attempt := rfl
@[simp] theorem Part.setSchedule_syncTimer : (p.setSchedule v).syncTimer = p.syncTimer := rfl
@[simp] theorem Part.setSchedule_groups : (p.setSchedule v).groups = p.groups := rfl
@[simp] theorem Part.setSchedule_stages : (p.setSchedule v).stages = p.stages := rfl
@[simp] theorem Part.setSchedule_management : (p.setSchedule v).management = p.management := rfl
@[simp] theorem Part.setSchedule_freeCount : (p.setSchedule v).freeCount = p.freeCount := rfl

end

/-! ### `Part.setExec` -/

section

variable (p : Part) (v : ExecRecord)

@[simp] theorem Part.setExec_link : (p.setExec v).link = p.link := rfl
@[simp] theorem Part.setExec_unitMap : (p.setExec v).unitMap = p.unitMap := rfl
@[simp] theorem Part.setExec_units : (p.setExec v).units = p.units := rfl
@[simp] theorem Part.setExec_time : (p.setExec v).time = p.time := rfl
@[simp] theorem Part.setExec_points : (p.setExec v).points = p.points := rfl
@[simp] theorem Part.setExec_sourceSettings : (p.setExec v).sourceSettings = p.sourceSettings := rfl
@[simp] theorem Part.setExec_sources : (p.setExec v).sources = p.sources := rfl
@[simp] theorem Part.setExec_breakerSettings : (p.setExec v).breakerSettings = p.breakerSettings := rfl
@[simp] theorem Part.setExec_breakers : (p.setExec v).breakers = p.breakers := rfl
@[simp] theorem Part.setExec_topology : (p.setExec v).topology = p.topology := rfl
@[simp] theorem Part.setExec_busSettings : (p.setExec v).busSettings = p.busSettings := rfl
@[simp] theorem Part.setExec_buses : (p.setExec v).buses = p.buses := rfl
@[simp] theorem Part.setExec_fedDomains : (p.setExec v).fedDomains = p.fedDomains := rfl
@[simp] theorem Part.setExec_arbiter : (p.setExec v).arbiter = p.arbiter := rfl
@[simp] theorem Part.setExec_channels : (p.setExec v).channels = p.channels := rfl
@[simp] theorem Part.setExec_templates : (p.setExec v).templates = p.templates := rfl
@[simp] theorem Part.setExec_candidates : (p.setExec v).candidates = p.candidates := rfl
@[simp] theorem Part.setExec_selection : (p.setExec v).selection = p.selection := rfl
@[simp] theorem Part.setExec_currentPlan : (p.setExec v).currentPlan = p.currentPlan := rfl
@[simp] theorem Part.setExec_previousPlan : (p.setExec v).previousPlan = p.previousPlan := rfl
@[simp] theorem Part.setExec_guard : (p.setExec v).guard = p.guard := rfl
@[simp] theorem Part.setExec_syncSettings : (p.setExec v).syncSettings = p.syncSettings := rfl
@[simp] theorem Part.setExec_attempt : (p.setExec v).attempt = p.attempt := rfl
@[simp] theorem Part.setExec_syncTimer : (p.setExec v).syncTimer = p.syncTimer := rfl
@[simp] theorem Part.setExec_schedule : (p.setExec v).schedule = p.schedule := rfl
@[simp] theorem Part.setExec_groups : (p.setExec v).groups = p.groups := rfl
@[simp] theorem Part.setExec_stages : (p.setExec v).stages = p.stages := rfl
@[simp] theorem Part.setExec_management : (p.setExec v).management = p.management := rfl
@[simp] theorem Part.setExec_freeCount : (p.setExec v).freeCount = p.freeCount := rfl

end

/-! ### `Part.setManagement` -/

section

variable (p : Part) (v : Management)

@[simp] theorem Part.setManagement_link : (p.setManagement v).link = p.link := rfl
@[simp] theorem Part.setManagement_unitMap : (p.setManagement v).unitMap = p.unitMap := rfl
@[simp] theorem Part.setManagement_units : (p.setManagement v).units = p.units := rfl
@[simp] theorem Part.setManagement_time : (p.setManagement v).time = p.time := rfl
@[simp] theorem Part.setManagement_points : (p.setManagement v).points = p.points := rfl
@[simp] theorem Part.setManagement_sourceSettings : (p.setManagement v).sourceSettings = p.sourceSettings := rfl
@[simp] theorem Part.setManagement_sources : (p.setManagement v).sources = p.sources := rfl
@[simp] theorem Part.setManagement_breakerSettings : (p.setManagement v).breakerSettings = p.breakerSettings := rfl
@[simp] theorem Part.setManagement_breakers : (p.setManagement v).breakers = p.breakers := rfl
@[simp] theorem Part.setManagement_topology : (p.setManagement v).topology = p.topology := rfl
@[simp] theorem Part.setManagement_busSettings : (p.setManagement v).busSettings = p.busSettings := rfl
@[simp] theorem Part.setManagement_buses : (p.setManagement v).buses = p.buses := rfl
@[simp] theorem Part.setManagement_fedDomains : (p.setManagement v).fedDomains = p.fedDomains := rfl
@[simp] theorem Part.setManagement_arbiter : (p.setManagement v).arbiter = p.arbiter := rfl
@[simp] theorem Part.setManagement_channels : (p.setManagement v).channels = p.channels := rfl
@[simp] theorem Part.setManagement_templates : (p.setManagement v).templates = p.templates := rfl
@[simp] theorem Part.setManagement_candidates : (p.setManagement v).candidates = p.candidates := rfl
@[simp] theorem Part.setManagement_selection : (p.setManagement v).selection = p.selection := rfl
@[simp] theorem Part.setManagement_exec : (p.setManagement v).exec = p.exec := rfl
@[simp] theorem Part.setManagement_currentPlan : (p.setManagement v).currentPlan = p.currentPlan := rfl
@[simp] theorem Part.setManagement_previousPlan : (p.setManagement v).previousPlan = p.previousPlan := rfl
@[simp] theorem Part.setManagement_guard : (p.setManagement v).guard = p.guard := rfl
@[simp] theorem Part.setManagement_syncSettings : (p.setManagement v).syncSettings = p.syncSettings := rfl
@[simp] theorem Part.setManagement_attempt : (p.setManagement v).attempt = p.attempt := rfl
@[simp] theorem Part.setManagement_syncTimer : (p.setManagement v).syncTimer = p.syncTimer := rfl
@[simp] theorem Part.setManagement_schedule : (p.setManagement v).schedule = p.schedule := rfl
@[simp] theorem Part.setManagement_groups : (p.setManagement v).groups = p.groups := rfl
@[simp] theorem Part.setManagement_stages : (p.setManagement v).stages = p.stages := rfl
@[simp] theorem Part.setManagement_freeCount : (p.setManagement v).freeCount = p.freeCount := rfl

end

/-! ### The records that stand whole in a field -/

section

variable (p : Part)

@[simp] theorem Part.setTime_time (v : TimeBase) : (p.setTime v).time = v := rfl
@[simp] theorem Part.setSchedule_schedule (v : Schedule) : (p.setSchedule v).schedule = v := rfl
@[simp] theorem Part.setExec_exec (v : ExecRecord) : (p.setExec v).exec = v := rfl
@[simp] theorem Part.setManagement_management (v : Management) : (p.setManagement v).management = v := rfl
@[simp] theorem Part.setPort_straps (k : Port) (v : PortState) : (p.setPort k v).link.straps = p.link.straps := rfl
@[simp] theorem Part.setPort_txSeq (k : Port) (v : PortState) : (p.setPort k v).link.txSeq = p.link.txSeq := rfl
@[simp] theorem Part.setPort_addressing (k : Port) (v : PortState) :
    (p.setPort k v).link.addressing = p.link.addressing := rfl

end

/-! ### One record of many -/

/-- What a vector reads after one item is replaced. -/
theorem get_set {α : Type} {n : Nat} (v : Vector α n) (i j : Fin n) (x : α) :
    (v.set i x).get j = if j = i then x else v.get j := by
  by_cases h : j = i
  · subst h; simp [Vector.get_eq_getElem]
  · have h' : (i : Nat) ≠ j := fun e => h (Fin.ext e.symm)
    simp [Vector.get_eq_getElem, h, h']

/-- What `mapAll` reads at an index. -/
@[simp] theorem get_mapAll {α β : Type} {n : Nat} (f : α → β) (v : Vector α n) (i : Fin n) :
    (mapAll f v).get i = f (v.get i) := by
  simp [mapAll, Vector.get_eq_getElem, Vector.getElem_mk]

/-- What `mapIndexed` reads at an index. -/
@[simp] theorem get_mapIndexed {α β : Type} {n : Nat} (f : Fin n → α → β) (v : Vector α n) (i : Fin n) :
    (mapIndexed f v).get i = f i (v.get i) := by
  simp [mapIndexed, Vector.get_eq_getElem, Vector.getElem_mk]

/-- A point is known by its place. -/
theorem Point.idx_inj {a b : Point} (h : a.idx = b.idx) : a = b := by
  rcases a with s | (_ | _) <;> rcases b with t | (_ | _) <;>
    simp only [Point.idx, Fin.ext_iff, Point.line.injEq, Point.bus.injEq] at h ⊢ <;> omega

/-- A breaker is known by its place. -/
theorem Breaker.idx_inj {a b : Breaker} (h : a.idx = b.idx) : a = b := by
  rcases a with s | _ | g <;> rcases b with t | _ | k <;>
    simp only [Breaker.idx, Fin.ext_iff, Breaker.incomer.injEq, Breaker.feeder.injEq] at h ⊢ <;> omega

/-- A channel is known by its number. -/
theorem Channel.idx_inj {a b : Channel} (h : a.idx = b.idx) : a = b := by
  revert h
  rcases a with (_ | _) | (_ | _) | (_ | _) | _ | (_ | _) | (_ | _) | _ <;>
    rcases b with (_ | _) | (_ | _) | (_ | _) | _ | (_ | _) | (_ | _) | _ <;> decide

/-- A condition flag is known by its place. -/
theorem flagIdx_inj {a b : Flag} (h : flagIdx a = flagIdx b) : a = b := by
  revert h
  cases a <;> cases b <;> decide

theorem Part.unit_setUnit (p : Part) (i j : Fin 32) (v : UnitRecord) :
    (p.setUnit i v).unit j = if j = i then v else p.unit j := get_set _ _ _ _

theorem Part.row_setRow (p : Part) (i j : Fin 32) (v : UnitMapRow) :
    (p.setRow i v).row j = if j = i then v else p.row j := get_set _ _ _ _

theorem Part.source_setSource (p : Part) (i j : Src) (v : SourceRecord) :
    (p.setSource i v).source j = if j = i then v else p.source j := get_set _ _ _ _

theorem Part.group_setGroup (p : Part) (i j : Grp) (v : GroupRow) :
    (p.setGroup i v).group j = if j = i then v else p.group j := get_set _ _ _ _

theorem Part.point_setPoint (p : Part) (i j : Point) (v : PointRecord) :
    (p.setPoint i v).point j = if j = i then v else p.point j := by
  by_cases h : j = i
  · simp [h, Part.point, Part.setPoint, get_set]
  · have h' : j.idx ≠ i.idx := fun e => h (Point.idx_inj e)
    simp [h, h', Part.point, Part.setPoint, get_set]

theorem Part.breaker_setBreaker (p : Part) (i j : Breaker) (v : BreakerRecord) :
    (p.setBreaker i v).breaker j = if j = i then v else p.breaker j := by
  by_cases h : j = i
  · simp [h, Part.breaker, Part.setBreaker, get_set]
  · have h' : j.idx ≠ i.idx := fun e => h (Breaker.idx_inj e)
    simp [h, h', Part.breaker, Part.setBreaker, get_set]

theorem Part.channel_setChannel (p : Part) (i j : Channel) (v : ChannelRecord) :
    (p.setChannel i v).channel j = if j = i then v else p.channel j := by
  by_cases h : j = i
  · simp [h, Part.channel, Part.setChannel, get_set]
  · have h' : j.idx ≠ i.idx := fun e => h (Channel.idx_inj e)
    simp [h, h', Part.channel, Part.setChannel, get_set]

theorem Part.condition_setCondition (p : Part) (i j : Flag) (v : ConditionRecord) :
    (p.setCondition i v).condition j = if j = i then v else p.condition j := by
  by_cases h : j = i
  · simp [h, Part.condition, Part.setCondition, get_set]
  · have h' : flagIdx j ≠ flagIdx i := fun e => h (flagIdx_inj e)
    simp [h, h', Part.condition, Part.setCondition, get_set]

theorem Part.bus_setBus (p : Part) (i j : Bus) (v : BusRecord) :
    (p.setBus i v).bus j = if j = i then v else p.bus j := by cases i <;> cases j <;> rfl

theorem Part.stage_setStage (p : Part) (i j : Bus) (v : LoadStage) :
    (p.setStage i v).stage j = if j = i then v else p.stage j := by cases i <;> cases j <;> rfl

theorem Part.port_setPort (p : Part) (i j : Port) (v : PortState) :
    (p.setPort i v).port j = if j = i then v else p.port j := by cases i <;> cases j <;> rfl

end Sys2Proof.Machine
end

