-- ==== Sys2Proof/Laws/Event.lean ====
section
/-! SUPPORT. How hand-offs are worked through: one after another, an event whose hand-offs come to an end, the answer to
a request on ports at rest, and laws that every hand-off and so every step keeps. -/

namespace Sys2Proof.Machine

/-! ### Working through hand-offs -/

@[simp] theorem drain_nil (n : Nat) (p : Part) : drain n [] p = (p, []) := by cases n <;> rfl

theorem drain_succ (n : Nat) (t : Task) (ts : List Task) (p : Part) :
    drain (n + 1) (t :: ts) p = drain n ((runTask t p).2 ++ ts) (runTask t p).1 := rfl

/-- Hand-offs come to an end: worked through from `p`, with whatever waits behind them, they take `n` of the bound and
leave `q`. -/
def Drains (ts : List Task) (p q : Part) (n : Nat) : Prop :=
  ∀ (k : Nat) (rest : List Task), drain (n + k) (ts ++ rest) p = drain k rest q

theorem drains_nil (p : Part) : Drains [] p p 0 := by
  intro k rest
  simp

/-- A hand-off comes to an end when what it hands off in turn does. -/
theorem drains_cons {t : Task} {ts : List Task} {p q : Part} {n : Nat}
    (h : Drains ((runTask t p).2 ++ ts) (runTask t p).1 q n) : Drains (t :: ts) p q (n + 1) := by
  intro k rest
  have : n + 1 + k = (n + k) + 1 := by omega
  rw [this, List.cons_append, drain_succ, ← List.append_assoc]
  exact h k rest

/-- Two runs of hand-offs, one behind the other. -/
theorem drains_append {ts us : List Task} {p q r : Part} {n m : Nat} (h : Drains ts p q n) (h' : Drains us q r m) :
    Drains (ts ++ us) p r (n + m) := by
  intro k rest
  rw [List.append_assoc, Nat.add_assoc, h, h']

/-- A hand-off that hands off nothing, before others. -/
theorem drains_single {t : Task} {ts : List Task} {p q r : Part} {n : Nat} (h : runTask t p = (q, []))
    (h' : Drains ts q r n) : Drains (t :: ts) p r (n + 1) := by
  apply drains_cons
  simpa [h] using h'

/-- An event of a calm state whose hand-offs come to an end within the bound. -/
theorem event_of_drains {s : State} {t : Task} {q : Part} {n : Nat} (hs : s.calm) (h : Drains [t] s.part q n)
    (hn : n ≤ Config.eventBound) : s.event t = { s with part := q } := by
  have hb : n + (Config.eventBound - n) = Config.eventBound := by omega
  have hd := h (Config.eventBound - n) []
  rw [hb, List.append_nil] at hd
  have hw : s.work = [] := hs
  simp only [State.event, State.drained, hw, List.nil_append, hd, drain_nil]

/-- An event of a calm state of a numbered part. -/
theorem stationEvent_of_drains {s : State} {t : Task} {q : Part} {n : Nat} (hs : s.serves)
    (h : Drains [t] s.part q n) (hn : n ≤ Config.eventBound) : s.stationEvent t = { s with part := q } := by
  simp only [State.stationEvent, hs.2, if_true]
  exact event_of_drains hs.1 h hn

/-! ### The answer to a request on ports at rest -/

theorem Part.linkRests_port {p : Part} (h : p.linkRests) (k : Port) : (p.port k).rests = true := h k

/-- A Response is made and placed on ports at rest (R6, R7, R185). -/
theorem drains_respond {p : Part} (h : p.linkRests) (m : Sender) (a : Answer) (rows : List RowData) :
    Drains [.respond m a rows] p (p.answerWith m a rows) 3 := by
  have h1 := h .one
  have h2 := h .two
  rcases p with ⟨⟨straps, tx, addr, ⟨⟨u1, q1, c1, r1, s1, x1, t1⟩, ⟨u2, q2, c2, r2, s2, x2, t2⟩⟩⟩⟩
  simp only [Part.port, PerPort.get, PortState.rests] at h1 h2
  intro k rest
  cases u1 <;> cases x1 <;> cases r1 <;> cases u2 <;> cases x2 <;> cases r2 <;> simp at h1 h2 <;>
    cases a <;>
    simp [drain_succ, runTask, respond, bothEgress, egress, placeResponse, Part.port, PerPort.get, Part.setPort, PerPort.set, Part.nextSeq, PortState.take, Part.answerWith, PortState.takeResponse, Part.setManagement, h1, h2, Part.now, show 3 + k = k + 1 + 1 + 1 by omega]
  all_goals rfl

/-! ### Laws that every hand-off keeps -/

/-- A law that every hand-off keeps is kept while hand-offs are worked through. -/
theorem drain_keeps (P : Part → Prop) (h : ∀ t p, P p → P (runTask t p).1) :
    ∀ n ts p, P p → P (drain n ts p).1
  | 0, _, _, hp => hp
  | _ + 1, [], _, hp => hp
  | n + 1, t :: ts, p, hp => drain_keeps P h n ((runTask t p).2 ++ ts) (runTask t p).1 (h t p hp)

/-- The same for hand-offs of one kind, which hand off only their kind in turn. -/
theorem drain_keeps_of_closed (K : Task → Prop) (P : Part → Prop)
    (hk : ∀ t p, K t → ∀ u ∈ (runTask t p).2, K u) (h : ∀ t p, K t → P p → P (runTask t p).1) :
    ∀ n ts p, (∀ u ∈ ts, K u) → P p → P (drain n ts p).1
  | 0, _, _, _, hp => hp
  | _ + 1, [], _, _, hp => hp
  | n + 1, t :: ts, p, hts, hp =>
    drain_keeps_of_closed K P hk h n ((runTask t p).2 ++ ts) (runTask t p).1
      (by
        intro u hu
        rcases List.mem_append.mp hu with hu | hu
        · exact hk t p (hts t (List.mem_cons_self ..)) u hu
        · exact hts u (List.mem_cons_of_mem _ hu))
      (h t p (hts t (List.mem_cons_self ..)) hp)

theorem drained_keeps (P : Part → Prop) (h : ∀ t p, P p → P (runTask t p).1) (s : State) (ts : List Task)
    (hs : P s.part) : P (s.drained ts).part := drain_keeps P h _ _ _ hs

theorem stationEvent_keeps (P : Part → Prop) (h : ∀ t p, P p → P (runTask t p).1) (s : State) (t : Task)
    (hs : P s.part) : P (s.stationEvent t).part := by
  unfold State.stationEvent
  split
  · exact drained_keeps P h s [t] hs
  · exact hs

/-- A law of the part is kept by every command if every hand-off keeps it and POWER_ON gives it. -/
theorem exec_keeps (P : Part → Prop) (h : ∀ t p, P p → P (runTask t p).1)
    (hon : ∀ straps n, P { Part.powerOn straps with freeCount := n }) (c : Instr) (s t : State) (hs : P s.part)
    (he : exec c s = .next t) : P t.part := by
  cases c <;> cases he <;>
    first
      | exact hon _ _
      | exact stationEvent_keeps P h s _ hs
      | exact drained_keeps P h s _ hs

/-- A law of the part is kept by every step if every hand-off, the clock and the count of free values keep it and
POWER_ON gives it. -/
theorem step_keeps (P : Part → Prop) (h : ∀ t p, P p → P (runTask t p).1)
    (hon : ∀ straps n, P { Part.powerOn straps with freeCount := n }) (htick : ∀ p, P p → P p.tick)
    (hfree : ∀ p n, P p → P { p with freeCount := n }) (s t : State) (hs : P s.part) (he : step s = .next t) :
    P t.part := by
  unfold step at he
  split at he
  · refine exec_keeps P h hon _ _ t ?_ he
    exact hs
  · cases he
    unfold State.idle
    split
    · exact drained_keeps P h s [] hs
    · split
      · exact htick _ hs
      · exact hs
      · exact hfree _ _ hs

end Sys2Proof.Machine
end

