-- ==== Sys2Proof/Laws/Requests.lean ====
section
/-! SUPPORT. How a request of a MANAGER station comes to its answer, and what a raise does while no take can follow. -/

namespace Sys2Proof.Machine

/-! ### Requests and their answers -/

theorem Part.countRequest_rests {p : Part} (h : p.linkRests) : p.countRequest.linkRests := h

/-- A request comes to an end when what it hands off does. -/
theorem drains_request {m : Sender} {r : Request} {p q : Part} {n : Nat}
    (h : Drains (carryOut m r p.countRequest).2 (carryOut m r p.countRequest).1 q n) :
    Drains [.request m r] p q (n + 1) := by
  apply drains_cons
  simpa [runTask, takeRequest, Part.countRequest] using h

/-- The event of a request whose hand-offs come to an end. -/
theorem requestEvent_of_drains {s : State} {m : Sender} {r : Request} {q : Part} {n : Nat} (hs : s.serves)
    (h : Drains (carryOut m r s.part.countRequest).2 (carryOut m r s.part.countRequest).1 q n)
    (hn : n < Config.eventBound) : s.requestEvent m r = { s with part := q } :=
  stationEvent_of_drains hs (drains_request h) hn

/-- The event of a request that hands off its answer alone. -/
theorem requestEvent_of_answer {s : State} {m : Sender} {r : Request} {p : Part} {a : Answer} {rows : List RowData}
    (hs : s.serves) (hp : p.linkRests) (h : carryOut m r s.part.countRequest = (p, [.respond m a rows])) :
    s.requestEvent m r = { s with part := p.answerWith m a rows } := by
  apply requestEvent_of_drains hs (n := 3)
  · rw [h]
    exact drains_respond hp m a rows
  · decide

/-! ### Numbers that requests name things by -/

theorem indexOf_val (k : Nat) (i : Fin k) : indexOf k (i.val + 1) = some i := by simp [indexOf]

theorem indexOf_out (k n : Nat) (h : n = 0 ∨ k < n) : indexOf k n = none := by
  simp [indexOf]
  omega

theorem Channel.ofNumber_out {n : Nat} (h : 11 < n) : Channel.ofNumber n = none := by
  simp [Channel.ofNumber, Channel.descending, List.find?_eq_none, Channel.idx]
  omega

theorem Channel.ofNumber_idx (c : Channel) : Channel.ofNumber c.idx.val = some c := by
  rcases c with (_ | _) | (_ | _) | (_ | _) | _ | (_ | _) | (_ | _) | _ <;> rfl

theorem Breaker.ofNumber_out {n : Nat} (h : n = 0 ∨ 21 < n) : Breaker.ofNumber n = none := by
  have h1 : ¬ (1 ≤ n ∧ n ≤ 4) := by omega
  have h2 : ¬ n = 5 := by omega
  have h3 : ¬ (6 ≤ n ∧ n ≤ 21) := by omega
  simp [Breaker.ofNumber, h1, h2, h3]

theorem Breaker.ofNumber_number (b : Breaker) : Breaker.ofNumber b.number = some b := by
  revert b
  rintro (s | _ | g)
  · revert s; decide
  · rfl
  · revert g; decide

/-! ### Raises while no take can follow -/

theorem judgeTake_halted {p : Part} (h : p.arbiter.mode = .halted) : runTask .judgeTake p = (p, []) := by
  simp [runTask, judgeTake, Part.takeable, h]

theorem judgePreempt_idle {p : Part} (h : p.exec.state = .idle) : runTask .judgePreempt p = (p, []) := by
  simp only [runTask, judgePreempt]
  split <;> simp [h]

/-- A raise in HALTED with the executor IDLE is tallied, and makes an enabled channel pending (R85). -/
theorem drains_raise {p q : Part} {ts : List Task} {n : Nat} (h : p.arbiter.mode = .halted)
    (h2 : p.exec.state = .idle) (c : Channel) (hr : Drains ts (p.raised c) q n) :
    ∃ k, k ≤ n + 3 ∧ Drains (.raise c :: ts) p q k := by
  by_cases hh : (p.channel c).enable = true ∧ (p.channel c).pending = false
  · refine ⟨n + 3, le_rfl, drains_cons ?_⟩
    have : runTask (.raise c) p = (p.raised c, [.judgeTake, .judgePreempt]) := by
      simp [runTask, raise, hh, Part.raised]
    rw [this]
    exact drains_single (judgeTake_halted h) (drains_single (judgePreempt_idle h2) hr)
  · refine ⟨n + 1, by omega, drains_single (q := p.raised c) ?_ hr⟩
    have : (((p.channel c).enable && !(p.channel c).pending) = false) := by simpa using hh
    simp only [runTask, raise, this, Bool.false_eq_true, if_false, Part.raised]
    have h3 : ((p.channel c).pending || (p.channel c).enable) = (p.channel c).pending := by
      cases hp : (p.channel c).pending <;> simp [hp] at this ⊢
      simpa using this
    rw [h3]

/-- A raise of a channel that is neither enabled nor pending is only tallied (R85). -/
theorem drains_raise_closed {p q : Part} {ts : List Task} {n : Nat} {c : Channel}
    (h : (p.channel c).enable = false ∧ (p.channel c).pending = false) (hr : Drains ts (p.raised c) q n) :
    Drains (.raise c :: ts) p q (n + 1) := by
  refine drains_single (q := p.raised c) ?_ hr
  simp [runTask, raise, h, Part.raised]

end Sys2Proof.Machine
end

