-- ==== Sys2Proof/Laws/Load.lean ====
section
/-! SUPPORT. What an event that reaches the Load Manager does while the part stands down: it changes the load stage
records, the tally and pending flag of the Load Manager's channels, and its two conditions only. -/

namespace Sys2Proof.Machine

theorem ChannelRecord.raisedFrom_refl (r : ChannelRecord) : r.raisedFrom r := rfl

theorem ChannelRecord.raisedFrom_trans {r s t : ChannelRecord} (h : s.raisedFrom r) (h' : t.raisedFrom s) :
    t.raisedFrom r := by
  unfold ChannelRecord.raisedFrom at *
  rw [h'] at *
  rw [h]

theorem Part.sameButLoad_refl (p : Part) : p.sameButLoad p :=
  ⟨rfl, fun _ _ => rfl, fun c => (p.channel c).raisedFrom_refl, fun _ _ => rfl⟩

theorem Part.sameButLoad_trans {p q r : Part} (h : p.sameButLoad q) (h' : q.sameButLoad r) : p.sameButLoad r := by
  obtain ⟨h1, h2, h3, h4⟩ := h
  obtain ⟨h1', h2', h3', h4'⟩ := h'
  refine ⟨?_, fun c hc => (h2' c hc).trans (h2 c hc), fun c => ChannelRecord.raisedFrom_trans (h3 c) (h3' c),
    fun f hf => (h4' f hf).trans (h4 f hf)⟩
  rw [h1']
  rw [h1]

theorem Part.stoodDown_of_sameButLoad {p q : Part} (h : p.sameButLoad q) (hd : p.stoodDown) : q.stoodDown := by
  rw [h.1]
  exact hd

theorem Part.sameButLoad_setStage (p : Part) (x : Bus) (v : LoadStage) : p.sameButLoad (p.setStage x v) :=
  ⟨rfl, fun _ _ => rfl, fun c => (p.channel c).raisedFrom_refl, fun _ _ => rfl⟩

theorem Part.sameButLoad_raised (p : Part) {c : Channel} (hc : loadChannel c = true) : p.sameButLoad (p.raised c) := by
  refine ⟨rfl, fun d hd => ?_, fun d => ?_, fun _ _ => rfl⟩
  · rw [Part.raised, Part.channel_setChannel, if_neg]
    rintro rfl
    simp [hc] at hd
  · rw [Part.raised, Part.channel_setChannel]
    split
    · rename_i h
      cases h
      rfl
    · rfl

theorem Part.sameButLoad_raiseFlag (p : Part) {f : Flag} (hf : loadFlag f = true) : p.sameButLoad (p.raiseFlag f) := by
  unfold Part.raiseFlag
  dsimp only
  split
  · exact p.sameButLoad_refl
  · refine ⟨rfl, fun _ _ => rfl, fun c => (p.channel c).raisedFrom_refl, fun g hg => ?_⟩
    rw [Part.condition_setCondition, if_neg]
    rintro rfl
    simp [hf] at hg

/-- The hand-offs of `ts` come to an end from `p`, within a bound, in a part that differs in the load records only. -/
def Settles (ts : List Task) (p : Part) (bound : Nat) : Prop :=
  ∃ q n, n ≤ bound ∧ Drains ts p q n ∧ p.sameButLoad q

theorem settles_nil (p : Part) : Settles [] p 0 := ⟨p, 0, le_rfl, drains_nil p, p.sameButLoad_refl⟩

theorem settles_cons {t : Task} {ts : List Task} {p : Part} {b c : Nat} (h : Settles [t] p b)
    (h' : ∀ q, p.sameButLoad q → Settles ts q c) : Settles (t :: ts) p (b + c) := by
  obtain ⟨q, n, hn, hq, hs⟩ := h
  obtain ⟨r, m, hm, hr, hs'⟩ := h' q hs
  exact ⟨r, n + m, by omega, drains_append hq hr, Part.sameButLoad_trans hs hs'⟩

theorem settles_one {t : Task} {p q : Part} (h : runTask t p = (q, [])) (hs : p.sameButLoad q) : Settles [t] p 1 :=
  ⟨q, 1, le_rfl, drains_single h (drains_nil q), hs⟩

theorem settles_mono {ts : List Task} {p : Part} {b c : Nat} (h : Settles ts p b) (hbc : b ≤ c) : Settles ts p c := by
  obtain ⟨q, n, hn, hq, hs⟩ := h
  exact ⟨q, n, by omega, hq, hs⟩

theorem settles_raise {p : Part} (hd : p.stoodDown) {c : Channel} (hc : loadChannel c = true) :
    Settles [.raise c] p 3 := by
  obtain ⟨k, hk, h⟩ := drains_raise hd.1 hd.2.1 c (drains_nil (p.raised c))
  exact ⟨_, k, hk, h, p.sameButLoad_raised hc⟩

theorem restoreStage_only (p : Part) (x : Bus) : ∃ v, restoreStage x p = (p.setStage x v, []) ∨
    restoreStage x p = (p, []) := by
  simp only [restoreStage]
  split
  all_goals
    split <;> first | exact ⟨_, .inl rfl⟩ | exact ⟨p.stage x, .inr rfl⟩

theorem settles_restoreStage (p : Part) (x : Bus) : Settles [.restoreStage x] p 1 := by
  obtain ⟨v, h | h⟩ := restoreStage_only p x
  · exact settles_one (by rw [runTask, h]) (p.sameButLoad_setStage x v)
  · exact settles_one (by rw [runTask, h]) p.sameButLoad_refl

theorem settles_shedRaised (p : Part) (x : Bus) : Settles [.shedRaised x] p 1 := by
  have hs := p.sameButLoad_setStage x (p.stage x).stopRestore
  obtain ⟨v, h | h⟩ := restoreStage_only (p.setStage x (p.stage x).stopRestore) x
  · exact settles_one (by rw [runTask, shedRaised, h]) (Part.sameButLoad_trans hs (Part.sameButLoad_setStage _ x v))
  · exact settles_one (by rw [runTask, shedRaised, h]) hs

theorem settles_capacityShort (p : Part) : Settles [.capacityShort] p 1 := by
  have h : ∃ q, runTask .capacityShort p = (q, []) ∧ p.sameButLoad q := by
    simp only [runTask, capacityShort]
    split
    · exact ⟨_, rfl, p.sameButLoad_raiseFlag rfl⟩
    · exact ⟨_, rfl, p.sameButLoad_refl⟩
  obtain ⟨q, h, hs⟩ := h
  exact settles_one h hs

/-- Hand-offs in front of which a part differs in the load records only. -/
theorem settles_step {t : Task} {p q : Part} {ts : List Task} {b : Nat} (h : runTask t p = (q, ts))
    (hs : p.sameButLoad q) (h' : Settles ts q b) : Settles [t] p (b + 1) := by
  obtain ⟨r, n, hn, hr, hs'⟩ := h'
  refine ⟨r, n + 1, by omega, drains_cons ?_, Part.sameButLoad_trans hs hs'⟩
  rw [h, List.append_nil]
  exact hr

theorem settles_shedStage {p : Part} (hd : p.stoodDown) (x : Bus) : Settles [.shedStage x] p 5 := by
  by_cases h1 : (p.stage x).shed = .raised ∧ (p.livelyLeads x).isSome
  · refine settles_mono (settles_one (q := p) ?_ p.sameButLoad_refl) (by omega)
    simp [runTask, shedStage, h1]
  · by_cases h2 : (p.followShed x (p.stage x)).capTimer = .running 0 0
    · refine settles_step (ts := [.raise (.shed x), .shedRaised x])
        (q := (p.setStage x (p.followShed x (p.stage x))).setStage x
          { (p.setStage x (p.followShed x (p.stage x))).stage x with
            shed := .raised, freqTimer := .stopped, capTimer := .stopped }) ?_
        (Part.sameButLoad_trans (Part.sameButLoad_setStage ..) (Part.sameButLoad_setStage ..)) ?_
      · simp [runTask, shedStage, h1, h2, shedNow]
      · exact settles_cons (settles_raise (by exact hd) rfl) (fun q _ => settles_shedRaised q x)
    · refine settles_mono (settles_one (q := p.setStage x (p.followShed x (p.stage x))) ?_
        (Part.sameButLoad_setStage ..)) (by omega)
      simp [runTask, shedStage, h1, h2]

/-- An event that reaches the Load Manager while the part stands down (R173). -/
theorem settles_load {p : Part} (hd : p.stoodDown) : Settles [.load] p 14 := by
  refine settles_step (ts := [.shedStage .a, .shedStage .b, .capacityShort, .restoreStage .a, .restoreStage .b])
    rfl p.sameButLoad_refl ?_
  refine settles_cons (b := 5) (c := 8) (settles_shedStage hd .a) fun q hq => ?_
  refine settles_cons (b := 5) (c := 3) (settles_shedStage (Part.stoodDown_of_sameButLoad hq hd) .b) fun q _ => ?_
  refine settles_cons (b := 1) (c := 2) (settles_capacityShort q) fun q _ => ?_
  refine settles_cons (b := 1) (c := 1) (settles_restoreStage q .a) fun q _ => ?_
  exact settles_restoreStage q .b

/-- The answer to a request after hand-offs that settle. -/
theorem drains_respond_of_settles {ts : List Task} {p : Part} {b : Nat} (h : Settles ts p b) (hp : p.linkRests)
    (m : Sender) (a : Answer) (rows : List RowData) :
    ∃ q n, n ≤ b + 3 ∧ Drains (ts ++ [.respond m a rows]) p q n ∧ (p.answerWith m a rows).sameButLoad q := by
  obtain ⟨q, n, hn, hq, hs⟩ := h
  have hq' : q.linkRests := by
    intro k
    have := hp k
    simp only [Part.port] at *
    rw [show q.link = p.link by rw [hs.1]]
    exact this
  refine ⟨q.answerWith m a rows, n + 3, by omega, drains_append hq (drains_respond hq' m a rows), ?_⟩
  refine ⟨?_, hs.2.1, hs.2.2.1, hs.2.2.2⟩
  rw [hs.1]
  rfl

end Sys2Proof.Machine
end

