-- ==== Sys2Proof/WellFormed.lean ====
section
/-! DEFINITION. Which commands are well formed: the ranges of the frame fields that a command carries (R9), the
station numbers 1–254 (R1, R9). The numbers that a rule judges itself are well formed at every value. -/

namespace Sys2Proof

/-- A station number that a sender can have (R9). -/
def stationOk (n : BitVec 8) : Bool := within 1 254 n.toNat

/-- The sender of a request is a station (R9, R185). -/
def Sender.wf (m : Sender) : Bool := stationOk m.station

/-- An Ethernet frame holds at least its two addresses and its type (R9, offsets 0–13) and at most 1518 bytes. -/
def frameWf (bytes : List Byte) : Bool := within 14 1518 bytes.length

/-- An ANNOUNCE comes from a station and its body names that station (R3, R9). -/
def AnnounceFrame.wf (f : AnnounceFrame) : Bool := stationOk f.station

/-- Well-formedness of a command. -/
def Instr.wf : Instr → Bool
  | .powerOn _ => true
  | .frameReceived _ _ bytes => frameWf bytes
  | .reading _ _ => true
  | .stateReport _ _ => true
  | .genstat _ _ => true
  | .timeFrame _ => true
  | .announce _ f => f.wf
  | .readRows m _ _ _ => m.wf
  | .writeRows m _ _ _ => m.wf
  | .writeUnitMap m _ _ => m.wf
  | .writeTopology m _ _ => m.wf
  | .writeTemplates m _ _ => m.wf
  | .writeCandidateLists m _ _ => m.wf
  | .writeSourceSettings m _ _ => m.wf
  | .writeBreakerSettings m _ _ => m.wf
  | .writeBusSettings m _ _ => m.wf
  | .writeGroupTable m _ _ => m.wf
  | .clearPortTallies m _ _ => m.wf
  | .start m => m.wf
  | .halt m => m.wf
  | .restart m => m.wf
  | .transfer m _ => m.wf
  | .test m _ => m.wf
  | .confirm m _ => m.wf
  | .setChannel m _ _ _ _ => m.wf
  | .ackConditions m _ => m.wf
  | .clearFaults m => m.wf
  | .operate m _ _ => m.wf
  | .sourceServiceOut m _ => m.wf
  | .sourceServiceIn m _ => m.wf
  | .clearLockout m _ => m.wf
  | .resetBreaker m _ => m.wf
  | .restoreGroup m _ => m.wf
  | .identify m => m.wf
  | .unknownRequest m => m.wf
  | .foreignRequest => true
  | .portUp _ => true
  | .portDown _ => true
  | .transmitEnd _ => true
  | .silenceExpiry _ => true
  | .holdoverExpiry => true
  | .slewInstant => true
  | .pickupExpiry _ => true
  | .unplannedParallelExpiry _ => true
  | .deadConfirmExpiry _ => true
  | .returnTimerExpiry _ => true
  | .waitdeadTimeout => true
  | .dwellExpiry => true
  | .waithealthyTimeout => true
  | .guardExpiry => true
  | .syncTimeLimitExpiry => true
  | .entryDue _ => true
  | .operateDeadlineExpiry _ => true
  | .frequencyStageExpiry _ => true
  | .capacityStageExpiry _ => true
  | .settleExpiry _ => true
  | .staggerExpiry _ => true
  | .statusTimerExpiry => true

end Sys2Proof
end

