-- ==== Sys2Proof/Laws/PerInstr.lean ====
section
/-! SUPPORT. A law of every command as syntax: a well-formed request names a manager station that can exist. -/

namespace Sys2Proof.Laws.SenderInRange

/-- The station that a command names as the sender of a request. -/
def senderOf : Instr → Option Sender
  | .powerOn _ => none
  | .frameReceived _ _ _ => none
  | .reading _ _ => none
  | .stateReport _ _ => none
  | .genstat _ _ => none
  | .timeFrame _ => none
  | .announce _ _ => none
  | .readRows m _ _ _ => some m
  | .writeRows m _ _ _ => some m
  | .writeUnitMap m _ _ => some m
  | .writeTopology m _ _ => some m
  | .writeTemplates m _ _ => some m
  | .writeCandidateLists m _ _ => some m
  | .writeSourceSettings m _ _ => some m
  | .writeBreakerSettings m _ _ => some m
  | .writeBusSettings m _ _ => some m
  | .writeGroupTable m _ _ => some m
  | .clearPortTallies m _ _ => some m
  | .start m => some m
  | .halt m => some m
  | .restart m => some m
  | .transfer m _ => some m
  | .test m _ => some m
  | .confirm m _ => some m
  | .setChannel m _ _ _ _ => some m
  | .ackConditions m _ => some m
  | .clearFaults m => some m
  | .operate m _ _ => some m
  | .sourceServiceOut m _ => some m
  | .sourceServiceIn m _ => some m
  | .clearLockout m _ => some m
  | .resetBreaker m _ => some m
  | .restoreGroup m _ => some m
  | .identify m => some m
  | .unknownRequest m => some m
  | .foreignRequest => none
  | .portUp _ => none
  | .portDown _ => none
  | .transmitEnd _ => none
  | .silenceExpiry _ => none
  | .holdoverExpiry => none
  | .slewInstant => none
  | .pickupExpiry _ => none
  | .unplannedParallelExpiry _ => none
  | .deadConfirmExpiry _ => none
  | .returnTimerExpiry _ => none
  | .waitdeadTimeout => none
  | .dwellExpiry => none
  | .waithealthyTimeout => none
  | .guardExpiry => none
  | .syncTimeLimitExpiry => none
  | .entryDue _ => none
  | .operateDeadlineExpiry _ => none
  | .frequencyStageExpiry _ => none
  | .capacityStageExpiry _ => none
  | .settleExpiry _ => none
  | .staggerExpiry _ => none
  | .statusTimerExpiry => none

/-- A well-formed command that names a sender names a station of 1–254 (R1, R9). -/
def Statement (i : Instr) : Prop :=
  i.wf = true → ∀ m, senderOf i = some m → 1 ≤ m.station.toNat ∧ m.station.toNat ≤ 254

/-- A sender that passes its check is a station of 1–254. -/
theorem of_wf (m : Sender) (h : m.wf = true) : 1 ≤ m.station.toNat ∧ m.station.toNat ≤ 254 := by
  simpa [Sender.wf, stationOk, within] using h

theorem powerOn : ∀ a0, Statement (.powerOn a0) := fun _ _ _ e => nomatch e
theorem frameReceived : ∀ a0 a1 a2, Statement (.frameReceived a0 a1 a2) := fun _ _ _ _ _ e => nomatch e
theorem reading : ∀ a0 a1, Statement (.reading a0 a1) := fun _ _ _ _ e => nomatch e
theorem stateReport : ∀ a0 a1, Statement (.stateReport a0 a1) := fun _ _ _ _ e => nomatch e
theorem genstat : ∀ a0 a1, Statement (.genstat a0 a1) := fun _ _ _ _ e => nomatch e
theorem timeFrame : ∀ a0, Statement (.timeFrame a0) := fun _ _ _ e => nomatch e
theorem announce : ∀ a0 a1, Statement (.announce a0 a1) := fun _ _ _ _ e => nomatch e
theorem readRows : ∀ m a1 a2 a3, Statement (.readRows m a1 a2 a3) := fun m _ _ _ h _ e => Option.some.inj e ▸ of_wf m h
theorem writeRows : ∀ m a1 a2 a3, Statement (.writeRows m a1 a2 a3) := fun m _ _ _ h _ e => Option.some.inj e ▸ of_wf m h
theorem writeUnitMap : ∀ m a1 a2, Statement (.writeUnitMap m a1 a2) := fun m _ _ h _ e => Option.some.inj e ▸ of_wf m h
theorem writeTopology : ∀ m a1 a2, Statement (.writeTopology m a1 a2) := fun m _ _ h _ e => Option.some.inj e ▸ of_wf m h
theorem writeTemplates : ∀ m a1 a2, Statement (.writeTemplates m a1 a2) := fun m _ _ h _ e => Option.some.inj e ▸ of_wf m h
theorem writeCandidateLists : ∀ m a1 a2, Statement (.writeCandidateLists m a1 a2) := fun m _ _ h _ e => Option.some.inj e ▸ of_wf m h
theorem writeSourceSettings : ∀ m a1 a2, Statement (.writeSourceSettings m a1 a2) := fun m _ _ h _ e => Option.some.inj e ▸ of_wf m h
theorem writeBreakerSettings : ∀ m a1 a2, Statement (.writeBreakerSettings m a1 a2) := fun m _ _ h _ e => Option.some.inj e ▸ of_wf m h
theorem writeBusSettings : ∀ m a1 a2, Statement (.writeBusSettings m a1 a2) := fun m _ _ h _ e => Option.some.inj e ▸ of_wf m h
theorem writeGroupTable : ∀ m a1 a2, Statement (.writeGroupTable m a1 a2) := fun m _ _ h _ e => Option.some.inj e ▸ of_wf m h
theorem clearPortTallies : ∀ m a1 a2, Statement (.clearPortTallies m a1 a2) := fun m _ _ h _ e => Option.some.inj e ▸ of_wf m h
theorem start : ∀ m, Statement (.start m) := fun m h _ e => Option.some.inj e ▸ of_wf m h
theorem halt : ∀ m, Statement (.halt m) := fun m h _ e => Option.some.inj e ▸ of_wf m h
theorem restart : ∀ m, Statement (.restart m) := fun m h _ e => Option.some.inj e ▸ of_wf m h
theorem transfer : ∀ m a1, Statement (.transfer m a1) := fun m _ h _ e => Option.some.inj e ▸ of_wf m h
theorem test : ∀ m a1, Statement (.test m a1) := fun m _ h _ e => Option.some.inj e ▸ of_wf m h
theorem confirm : ∀ m a1, Statement (.confirm m a1) := fun m _ h _ e => Option.some.inj e ▸ of_wf m h
theorem setChannel : ∀ m a1 a2 a3 a4, Statement (.setChannel m a1 a2 a3 a4) := fun m _ _ _ _ h _ e => Option.some.inj e ▸ of_wf m h
theorem ackConditions : ∀ m a1, Statement (.ackConditions m a1) := fun m _ h _ e => Option.some.inj e ▸ of_wf m h
theorem clearFaults : ∀ m, Statement (.clearFaults m) := fun m h _ e => Option.some.inj e ▸ of_wf m h
theorem operate : ∀ m a1 a2, Statement (.operate m a1 a2) := fun m _ _ h _ e => Option.some.inj e ▸ of_wf m h
theorem sourceServiceOut : ∀ m a1, Statement (.sourceServiceOut m a1) := fun m _ h _ e => Option.some.inj e ▸ of_wf m h
theorem sourceServiceIn : ∀ m a1, Statement (.sourceServiceIn m a1) := fun m _ h _ e => Option.some.inj e ▸ of_wf m h
theorem clearLockout : ∀ m a1, Statement (.clearLockout m a1) := fun m _ h _ e => Option.some.inj e ▸ of_wf m h
theorem resetBreaker : ∀ m a1, Statement (.resetBreaker m a1) := fun m _ h _ e => Option.some.inj e ▸ of_wf m h
theorem restoreGroup : ∀ m a1, Statement (.restoreGroup m a1) := fun m _ h _ e => Option.some.inj e ▸ of_wf m h
theorem identify : ∀ m, Statement (.identify m) := fun m h _ e => Option.some.inj e ▸ of_wf m h
theorem unknownRequest : ∀ m, Statement (.unknownRequest m) := fun m h _ e => Option.some.inj e ▸ of_wf m h
theorem foreignRequest : Statement .foreignRequest := fun _ _ e => nomatch e
theorem portUp : ∀ a0, Statement (.portUp a0) := fun _ _ _ e => nomatch e
theorem portDown : ∀ a0, Statement (.portDown a0) := fun _ _ _ e => nomatch e
theorem transmitEnd : ∀ a0, Statement (.transmitEnd a0) := fun _ _ _ e => nomatch e
theorem silenceExpiry : ∀ a0, Statement (.silenceExpiry a0) := fun _ _ _ e => nomatch e
theorem holdoverExpiry : Statement .holdoverExpiry := fun _ _ e => nomatch e
theorem slewInstant : Statement .slewInstant := fun _ _ e => nomatch e
theorem pickupExpiry : ∀ a0, Statement (.pickupExpiry a0) := fun _ _ _ e => nomatch e
theorem unplannedParallelExpiry : ∀ a0, Statement (.unplannedParallelExpiry a0) := fun _ _ _ e => nomatch e
theorem deadConfirmExpiry : ∀ a0, Statement (.deadConfirmExpiry a0) := fun _ _ _ e => nomatch e
theorem returnTimerExpiry : ∀ a0, Statement (.returnTimerExpiry a0) := fun _ _ _ e => nomatch e
theorem waitdeadTimeout : Statement .waitdeadTimeout := fun _ _ e => nomatch e
theorem dwellExpiry : Statement .dwellExpiry := fun _ _ e => nomatch e
theorem waithealthyTimeout : Statement .waithealthyTimeout := fun _ _ e => nomatch e
theorem guardExpiry : Statement .guardExpiry := fun _ _ e => nomatch e
theorem syncTimeLimitExpiry : Statement .syncTimeLimitExpiry := fun _ _ e => nomatch e
theorem entryDue : ∀ a0, Statement (.entryDue a0) := fun _ _ _ e => nomatch e
theorem operateDeadlineExpiry : ∀ a0, Statement (.operateDeadlineExpiry a0) := fun _ _ _ e => nomatch e
theorem frequencyStageExpiry : ∀ a0, Statement (.frequencyStageExpiry a0) := fun _ _ _ e => nomatch e
theorem capacityStageExpiry : ∀ a0, Statement (.capacityStageExpiry a0) := fun _ _ _ e => nomatch e
theorem settleExpiry : ∀ a0, Statement (.settleExpiry a0) := fun _ _ _ e => nomatch e
theorem staggerExpiry : ∀ a0, Statement (.staggerExpiry a0) := fun _ _ _ e => nomatch e
theorem statusTimerExpiry : Statement .statusTimerExpiry := fun _ _ e => nomatch e

end Sys2Proof.Laws.SenderInRange
end

