-- ==== Sys2Proof/Tests/Slice0.lean ====
section
/-! SUPPORT. The model's own tests. `witness_…` shows, clause by clause, states and operands that meet the hypotheses of
the statement it is named after, at boundary values where a clause has a range. `test_…` compares one operation or one
command with a figure that the spec writes out. -/

namespace Sys2Proof.Tests

set_option Elab.async false

open Sys2Proof.Machine

/-! ### States the tests start from -/

/-- The state after a command. -/
def after (c : Instr) (s : State) : State :=
  match exec c s with
  | .next t => t
  | _ => s

/-- The manager station that sends the requests of the tests. -/
def host : Sender := ⟨60, 7⟩

/-- A state with another part. -/
def on (p : Part) : State := ⟨p, [], []⟩

/-- A numbered part right after POWER-ON. -/
def bare : Part := Part.powerOn 1

/-- The roles of the board: every unit a part can have. -/
def boardRoles : List Role :=
  [.point (.line 0), .point (.line 1), .point (.line 2), .point (.line 3), .point (.bus .a), .point (.bus .b)] ++
    allBreakers.map .breaker ++ [.genctl 2, .genctl 3, .timeMaster, .manager 0]

/-- The unit map of the board: row n binds station n + 1. -/
def boardRows : List UnitMapRow :=
  boardRoles.zipIdx.map (fun r => ⟨Fin.ofNat 255 (r.2 + 2), r.1, false, false, 300, 4⟩)

/-- A source that is HEALTHY, with its supply at 1000 and 50 Hz. -/
def good : Reading := ⟨1000, 1000, 1000, 0, 50000, true, false, false, 900⟩

/-- A board in service: sources S1, S2 (utilities) and S3, S4 (generators), I1 and I2 CLOSED, every unit ACTIVE, time
LOCKED. -/
def board : Part :=
  let p := { bare with
    unitMap := overlay (fun _ r => r) boardRows 0 bare.unitMap
    units := mapAll (fun (u : UnitRecord) => { u with state := .active }) bare.units
    topology := { bare.topology with kind := #v[.utility, .utility, .generator, .generator] }
    points := mapAll
      (fun (q : PointRecord) =>
        { q with seen := true, latest := some good, latestValid := some good, lastStamp := some 900 }) bare.points
    sources := mapAll (fun (q : SourceRecord) => { q with state := .healthy }) bare.sources
    sourceSettings := mapAll (fun (k : SourceSettings) => { k with rated := 1000 }) bare.sourceSettings
    breakers := mapIndexed
      (fun i (r : BreakerRecord) =>
        { r with position := if i.val < 2 then .closed else .opn, ready := true, remote := true }) bare.breakers
    buses := ⟨{ bare.buses.a with live := .live }, { bare.buses.b with live := .live }⟩
    groups := mapIndexed (fun g (r : GroupRow) => { r with demand := 100 * (g.val + 1), rank := g.val }) bare.groups
    time := { bare.time with now := 1000, state := .locked, everLocked := true, lastFrame := some 0 } }
  p.recomputeFeeding

/-- The board in AUTO. -/
def auto : Part := { board with arbiter := ⟨.auto, true, false, .none, false⟩ }

theorem all_ports {P : Port → Prop} (h1 : P .one) (h2 : P .two) : ∀ k, P k
  | .one => h1
  | .two => h2

theorem all_buses {P : Bus → Prop} (h1 : P .a) (h2 : P .b) : ∀ x, P x
  | .a => h1
  | .b => h2

theorem all_breakers {P : Breaker → Prop} (h1 : ∀ s, P (.incomer s)) (h2 : P .coupler) (h3 : ∀ g, P (.feeder g)) :
    ∀ b, P b
  | .incomer s => h1 s
  | .coupler => h2
  | .feeder g => h3 g

theorem all_channels {P : Channel → Prop} (h : ∀ c ∈ Channel.descending, P c) (c : Channel) : P c :=
  h c (by cases c <;> first | decide | (rename_i x; cases x <;> decide))

theorem board_serves : (on board).serves ∧ board.linkRests ∧ board.stoodDown ∧ board.scheduleEmpty := by
  refine ⟨by unfold State.serves; decide +kernel, all_ports ?_ ?_, ?_, ?_⟩
  · decide +kernel
  · decide +kernel
  · unfold Part.stoodDown; decide +kernel
  · unfold Part.scheduleEmpty; decide +kernel

/-! ### Witnesses: the idle block, the laws of a step, ports and frames -/

theorem witness_IdleBlockCountsItsClock :
    ((on board).pending = [] ∧ (on board).calm ∧ board.expiries = [] ∧ board.time.correction = 0 ∧
      board.time.withhold = 0) ∧
    (let p := board.setTime { board.time with withhold := 1 }
     (on p).calm ∧ p.expiries = [] ∧ p.time.correction = 0 ∧ p.time.withhold ≠ 0) ∧
    (let p := board.setManagement { board.management with statusTimer := .running 100000 100000 }
     (on p).calm ∧ p.expiries = [.statusTimerExpiry]) := by
  refine ⟨⟨rfl, rfl, ?_⟩, ⟨rfl, ?_⟩, rfl, ?_⟩ <;> decide +kernel

theorem witness_StepsKeepLaws :
    auto.runOutputAgrees ∧ auto.scheduleSound ∧ auto.feedingAgrees ∧ auto.sourcesSound ∧ auto.timersAgree ∧
      auto.portsSound ∧ auto.recordsBounded ∧ ∃ t, step (on auto) = .next t := by
  refine ⟨?_, ?_, ⟨all_buses ?_ ?_, ?_⟩, ?_, ⟨?_, ?_, all_buses ?_ ?_⟩, all_ports ?_ ?_, ⟨?_, ?_, ?_⟩, (on auto).idle, rfl⟩
  · unfold Part.runOutputAgrees; decide +kernel
  · unfold Part.scheduleSound; decide +kernel
  · decide +kernel
  · decide +kernel
  · decide +kernel
  · unfold Part.sourcesSound; decide +kernel
  · decide +kernel
  · decide +kernel
  · unfold LoadStage.timersAgree; decide +kernel
  · unfold LoadStage.timersAgree; decide +kernel
  · unfold PortState.sound; decide +kernel
  · unfold PortState.sound; decide +kernel
  · decide +kernel
  · decide +kernel
  · unfold FaultLog.sound; decide +kernel

theorem witness_StepsKeepTheChannelsSound : auto.channelsSound := by
  refine ⟨all_channels ?_, all_channels ?_⟩
  · intro c _ d h
    exact absurd (all_channels (P := fun e => (auto.channel e).engaged = .no) (by decide +kernel) c) (by
      intro hc
      have := all_channels (P := fun e => (auto.channel e).engaged = .no) (by decide +kernel) d
      simp_all)
  · decide +kernel

theorem witness_StepsKeepTheUnitMapUnique : board.unitMapUnique := by
  unfold Part.unitMapUnique; decide +kernel

theorem witness_StepsKeepSettingsInRange : board.settingsInRange := by
  refine ⟨?_, ?_, ?_, ?_, ?_, all_breakers ?_ ?_ ?_, all_buses ?_ ?_, ?_, ?_, ?_, ?_, ?_⟩ <;> decide +kernel

/-- A Command frame of station 1: OPEN the coupler at once, number 0, sequence 1, stamp 258. -/
def openCoupler : CommandFrame := ⟨⟨.line, 1, 1, 258⟩, 0, .breaker .coupler, .opn, 0⟩

/-- A port that is UP and sends a frame, with 8 frames queued behind it and a command waiting. -/
def busyPort : PortState :=
  { PortState.init with
    up := true
    queue := List.replicate 8 [1, 2]
    command := some openCoupler
    sending := some (.forwarded [9]) }

theorem witness_PortsAndTransmitters :
    (on (board.setPort .one busyPort)).calm ∧ (board.setPort .one busyPort).scheduleEmpty ∧
      ((board.setPort .one busyPort).port .one).sound ∧ ((board.setPort .one busyPort).port .one).up = true ∧
      (board.port .one).up = false ∧ (board.port .one).sound := by
  refine ⟨rfl, ⟨rfl, rfl⟩, ?_, rfl, rfl, ?_⟩ <;> · unfold PortState.sound; decide +kernel

/-- The header of a Nodesta frame for a station, of a kind, from a station, with sequence 1 and stamp 0. -/
def frameTo (dest kind sender : BitVec 8) (body : List Byte) : List Byte :=
  [0x02, 0x4E, 0x53, 0x00, 0x00, dest] ++ [2, 0, 0, 0, 0, sender] ++ [0x9A, 0x40] ++ [kind, sender, 0, 1] ++
    [0, 0, 0, 0, 0, 0] ++ body

/-- The board with port 1 UP. -/
def linked : Part := board.setPort .one { board.port .one with up := true }

/-- An unnumbered part with port 1 UP. -/
def unnumbered : Part := (Part.powerOn 255).setPort .one { PortState.init with up := true }

/-- The drain that a frame's owner begins comes to an end (log 2). -/
def ends (ts : List Task) (p : Part) : Bool := (drain (Config.eventBound - 3) ts p).2.isEmpty

/-- A 1000 V, 50 Hz READING body with all marks VALID (R9). -/
def readingBytes : List Byte := [3, 232, 3, 232, 3, 232, 0, 0, 195, 80, 1]

theorem witness_OnlyNumberedPartsTakeFramesIn :
    -- an unnumbered part with port 1 UP: a short Nodesta frame, and one for the line multicast address
    (let p := unnumbered
     p.numbered = false ∧ (Part.powerOn 0).numbered = false ∧ forStation (.start host) = true ∧ (on p).calm ∧
       (p.port .one).up = true ∧ (p.port (otherPort .one)).rests = true ∧
       fieldAt ((frameTo 1 2 7 []).take 23) 12 2 = some nodestaType ∧
       ((frameTo 1 2 7 []).take 23).length < headerLength) ∧
    -- a READING of P1's unit, station 2, that is one ahead and passes; an ANNOUNCE of the same station
    ((on linked).serves ∧ (linked.port .one).up = true ∧ (linked.port (otherPort .one)).rests = true ∧
      linked.hears (frameTo 1 1 2 readingBytes) ∧ linked.hears (lineMulticast ++ (frameTo 1 1 2 readingBytes).drop 6) ∧
      linked.rowOfStation 2 = some 0 ∧
      ∃ r, frameOf (frameTo 1 1 2 readingBytes) = some (⟨2, 1, 0⟩, .reading r) ∧
        ownerCommand 2 (linked.row 0).role (.reading r) = some (.reading (.line 0) r) ∧
        ownerTask 2 (linked.row 0).role (.reading r) = some (.reading (.line 0) r) ∧
        (superviseUnit (linked.row 0) (linked.unit 0) 1 1000).2 = .passed ∧
        ends [.reading (.line 0) r]
          (linked.setUnit 0 (superviseUnit (linked.row 0) (linked.unit 0) 1 1000).1) = true) ∧
    (frameOf (frameTo 1 5 2 [2, 1, 1]) = some (⟨2, 1, 0⟩, .announce .point 1) ∧
      linked.hears (frameTo 1 5 2 [2, 1, 1]) ∧ ends [.announce .one ⟨2, 1, .point, 1⟩] linked = true) ∧
    -- a stale frame, a gap of 1 that reaches the threshold of 4, and a kind that a POINT does not send
    (superviseUnit (linked.row 0) { linked.unit 0 with expected := 2 } 1 1000).2 = .discarded ∧
    (superviseUnit (linked.row 0) { linked.unit 0 with miss := 3 } 1 1000).2 = .lost ∧
    ownerCommand 2 (linked.row 0).role (.time 5) = none ∧
    -- distances 0, 1, 32767 and 32768 of an ACTIVE unit that expects sequence 5
    (((5 : SeqNum) - 5).toNat = 0 ∧ ((6 : SeqNum) - 5).toNat = 1 ∧ ((32772 : SeqNum) - 5).toNat = 32767 ∧
      ((32773 : SeqNum) - 5).toNat = 32768 ∧ (linked.unit 0).state = .active) := by
  refine ⟨?_, ⟨⟨rfl, ?_⟩, rfl, ?_, ?_, ?_, ?_, _, rfl, rfl, rfl, ?_, ?_⟩, ⟨rfl, ?_, ?_⟩, ?_, ?_, rfl, ?_⟩
  all_goals first | decide +kernel | (unfold Part.hears; decide +kernel) | (unfold State.calm; decide +kernel)

theorem witness_ReceivedFramesAreCountedOrForwarded :
    ((on linked).serves ∧ openCoupler.head.station = linked.link.straps) ∧
    (on linked).calm ∧ (linked.port .two).up = false ∧ (linked.port .one).up = true ∧ linked.numbered = true ∧
    -- its own number comes back
    (fieldAt (frameTo 1 2 1 []) 12 2 = some nodestaType ∧ headerLength ≤ (frameTo 1 2 1 []).length ∧
      fieldAt (frameTo 1 2 1 []) 15 1 = some linked.link.straps.toNat) ∧
    -- a body one byte short
    (fieldAt (frameTo 1 4 2 [0, 0, 0, 0, 0]) 15 1 ≠ some linked.link.straps.toNat ∧
      (frameTo 1 4 2 [0, 0, 0, 0, 0]).take 6 = stationAddress linked.link.straps ∧
      frameOf (frameTo 1 4 2 [0, 0, 0, 0, 0]) = none) ∧
    -- a TIME frame of a station that no row binds
    ((∃ h b, frameOf (frameTo 1 4 99 [0, 0, 0, 0, 0, 5]) = some (h, b) ∧ (∀ role index, b ≠ .announce role index) ∧
      linked.rowOfStation h.station.toNat = none)) ∧
    -- frames for others: of another type, and for another station
    (linked.port (otherPort .one)).rests = true ∧ fieldAt [1, 2, 3] 12 2 ≠ some nodestaType ∧
    (headerLength ≤ (frameTo 77 4 2 []).length ∧ fieldAt (frameTo 77 4 2 []) 15 1 ≠ some linked.link.straps.toNat ∧
      (frameTo 77 4 2 []).take 6 ≠ stationAddress linked.link.straps ∧ (frameTo 77 4 2 []).take 6 ≠ lineMulticast ∧
      (frameTo 77 4 2 []).take 6 ≠ broadcast) := by
  refine ⟨⟨⟨rfl, by decide +kernel⟩, rfl⟩, rfl, rfl, rfl, ?_, ?_, ?_, ⟨⟨99, 1, 0⟩, .time 5, ?_, ?_, ?_⟩, ?_⟩
  · decide +kernel
  · decide +kernel
  · decide +kernel
  · decide +kernel
  · intro role index h; cases h
  · decide +kernel
  · decide +kernel

/-- A LOST unit that expects sequence 5. -/
def lostUnit : UnitRecord := { UnitRecord.init with state := .lost, expected := 5 }

theorem witness_LostUnitRejoinsOnFourFrames :
    lostUnit.state = .lost ∧ lostUnit.rejoin = 0 ∧ ((32772 : SeqNum) - lostUnit.expected).toNat = 32767 ∧
      ((5 : SeqNum) - lostUnit.expected).toNat = 0 := by decide +kernel

/-- The board with row 1 (P1) unbound, not for learning, and row 2 (P2) free and learn-set. -/
def learning : Part :=
  (board.setRow 0 { board.row 0 with station := 0 }).setRow 1 { board.row 1 with station := 0, learn := true }

theorem witness_AnnounceBindsAFreeRow :
    (on learning).serves ∧ (254 : BitVec 8).toNat = (254 : Fin 255).val ∧ 1 ≤ (254 : Fin 255).val ∧
      learning.rowOfStation 254 = none ∧
      (claimedRole .breaker 22).bind learning.rowOfRole = none ∧
      ((claimedRole .breaker 21).bind learning.rowOfRole = some 26 ∧ (learning.row 26).station.val ≠ 0) ∧
      ((claimedRole .point 1).bind learning.rowOfRole = some 0 ∧ (learning.row 0).station.val = 0 ∧
        (learning.row 0).learn = false) ∧
      ((claimedRole .point 2).bind learning.rowOfRole = some 1 ∧ (learning.row 1).station.val = 0 ∧
        (learning.row 1).learn = true ∧ (learning.row 1).freeze = false) := by
  refine ⟨⟨rfl, ?_⟩, ?_⟩ <;> decide +kernel

/-- The board with the silence timers of three units run out: P1's (LOST), the coupler's, and the time master's. -/
def silent : Part :=
  let out := Timer.running 300000 300000
  ((board.setUnit 0 { board.unit 0 with state := .lost, silence := out }).setUnit 10
    { board.unit 10 with silence := out }).setUnit 29 { board.unit 29 with silence := out }

/-- The board with F1 CLOSED, and the silence timer of its unit run out. -/
def silentFeeder : Part :=
  (board.setBreaker (.feeder 0) { board.breaker (.feeder 0) with position := .closed }).setUnit 11
    { board.unit 11 with silence := .running 300000 300000 }

theorem witness_SilenceExpiryLosesAnActiveUnit :
    (on silent).calm ∧ (silent.unit 1).silence.due = false ∧
      ((silent.unit 0).silence.due = true ∧ (silent.unit 0).state ≠ .active) ∧
      ((silent.unit 10).silence.due = true ∧ (silent.unit 10).state = .active) ∧
      ((silent.unit 29).silence.due = true ∧ (silent.unit 29).state = .active ∧
        (silent.row 29).role = .timeMaster ∧ silent.time.state = .locked) ∧
      ((on silentFeeder).calm ∧ (silentFeeder.unit 11).silence.due = true ∧ (silentFeeder.unit 11).state = .active ∧
        (silentFeeder.row 11).role = .breaker (.feeder 0) ∧ silentFeeder.connectedDemand 0 = 100 ∧
        (silentFeeder.breaker (.feeder 0)).position = .closed ∧ silentFeeder.feedingAgrees ∧ silentFeeder.stoodDown) := by
  refine ⟨rfl, ?_, ?_, ?_, ?_, rfl, ?_, ?_, ?_, ?_, ?_, ⟨all_buses ?_ ?_, ?_⟩, ?_⟩
  all_goals first | decide +kernel | (unfold Part.stoodDown; decide +kernel)

/-- A CLOSED feeder whose unit is LOST counts (R171) until its reports show it OPEN. -/
theorem test_lost_feeder_still_counts :
    let lost := after (.silenceExpiry 11) (on silentFeeder)
    let opened : BreakerReport := ⟨.opn, true, true, false, .none, 0, .noCommand⟩
    let first := after (.stateReport (.feeder 0) opened) lost
    let second := after (.stateReport (.feeder 0) opened) first
    (lost.part.breaker (.feeder 0)).position = .unknown ∧ lost.part.connectedDemand 0 = 100 ∧
      lost.part.groupState 0 = .unavailable ∧ first.part.connectedDemand 0 = 100 ∧
      second.part.connectedDemand 0 = 0 := by decide +kernel

/-- The board in another time state, at station time 1000 with transit 100. -/
def atTime (t : TimeState) : Part := board.setTime { board.time with state := t }

theorem witness_TimeFrameBeforeLock :
    ((on (atTime .unsynced)).serves ∧ (on (atTime .locking)).serves ∧ (atTime .unsynced).scheduleEmpty ∧
      (atTime .locking).scheduleEmpty) ∧
    (let t := (atTime .unsynced).time
     -- one above the last instant, and the last instant
     2 ^ 48 - 1 < (281474976710556 : Stamp).toNat + t.settings.transit ∧
       (281474976710555 : Stamp).toNat + t.settings.transit ≤ 2 ^ 48 - 1 ∧ t.state = .unsynced) ∧
    (let t := (atTime .locking).time
     let e (master : Stamp) : Int := ((master.toNat + t.settings.transit : Nat) : Int) - (t.now : Int)
     -- errors of 101 and 100 µs
     t.state = .locking ∧ (t.settings.lockBand : Int) < (e 1001).natAbs ∧ ((e 1000).natAbs : Int) ≤ t.settings.lockBand) := by
  refine ⟨⟨⟨rfl, ?_⟩, ⟨rfl, ?_⟩, ⟨rfl, rfl⟩, rfl, rfl⟩, ?_⟩ <;> decide +kernel

theorem witness_TimeFrameWhileLocked :
    ((on board).serves ∧ board.schedule.held = [] ∧ board.time.state = .locked) ∧
    ((on (atTime .holdover)).serves ∧ (atTime .holdover).time.state = .holdover) ∧
    (let t := board.time
     let e (master : Stamp) : Int := ((master.toNat + t.settings.transit : Nat) : Int) - (t.now : Int)
     -- errors of 1000 and 1001 µs
     (e 1900).natAbs ≤ t.settings.stepThreshold ∧ t.settings.stepThreshold < (e 1901).natAbs) ∧
    (board.quiet = true ∧ (board.setExec { board.exec with state := .running }).quiet = false ∧
      (on (board.setExec { board.exec with state := .running })).serves) := by
  refine ⟨⟨⟨rfl, ?_⟩, rfl, rfl⟩, ⟨⟨rfl, ?_⟩, rfl⟩, ?_, ?_, ?_, ⟨rfl, ?_⟩⟩ <;> decide +kernel

/-- The board with one microsecond of a slew left to apply, and its instant reached wherever the first lies. -/
def slewing (c : Int) : Part :=
  board.setTime { board.time with correction := c, slewTotal := 1, slewInterval := 1 }

theorem witness_HoldoverAndSlewInstants :
    ((on board).calm ∧ board.time.holdover.due = false ∧ board.time.slewDue = false) ∧
    (let p := board.setTime { board.time with state := .holdover, holdover := .running 5000000 5000000 }
     (on p).calm ∧ p.time.holdover.due = true ∧ p.time.state = .holdover ∧ p.noOpenAttempt = true) ∧
    ((on (slewing 1)).calm ∧ (slewing 1).time.slewDue = true ∧ 0 < (slewing 1).time.correction ∧
      (slewing 1).scheduleEmpty) ∧
    (on (slewing (-1))).calm ∧ (slewing (-1)).time.slewDue = true ∧ (slewing (-1)).time.correction ≤ 0 := by
  refine ⟨⟨rfl, ?_⟩, ⟨rfl, ?_⟩, ⟨rfl, ?_, ?_, rfl, rfl⟩, rfl, ?_, ?_⟩
  · decide +kernel
  · decide +kernel
  · simp [slewing, Part.setTime, TimeBase.slewDue, Nat.mod_one]
  · decide +kernel
  · simp [slewing, Part.setTime, TimeBase.slewDue, Nat.mod_one]
  · decide +kernel

/-! ### Witnesses: readings, sources and generators -/

/-- A reading of three equal magnitudes. -/
def volts (v : BitVec 16) (stamp : Stamp) : RawReading := ⟨v, v, v, 0, 50000, true, false, stamp⟩

theorem witness_DiscardedReadingsAreCounted :
    (on board).serves ∧
    (({ volts 1000 901 with test := true }).test && !(board.point (.line 0)).testAccept) = true ∧
    (let b := volts 1000 6001
     (b.test && !(board.point (.line 0)).testAccept) = false ∧
       (board.timeGood && decide (board.now + board.time.settings.futureStamp < b.stamp.toNat)) = true) ∧
    (let b := volts 1000 900
     (b.test && !(board.point (.line 0)).testAccept) = false ∧
       (board.timeGood && decide (board.now + board.time.settings.futureStamp < b.stamp.toNat)) = false ∧
       (∃ last, (board.point (.line 0)).lastStamp = some last ∧ b.stamp.toNat ≤ last)) := by
  refine ⟨⟨rfl, ?_⟩, ?_, ?_, ?_, ?_, 900, ?_⟩ <;> decide +kernel

/-- The board with S1 RIDING an excursion of class 1 that began 3 s before a reading with stamp 3,000,000. -/
def riding : Part :=
  board.setSource 0
    { board.source 0 with state := .riding, excursion := some (Excursion.first .c1 { good with stamp := 0 }) }

theorem witness_LineReadingsAreStoredAndJudged :
    ((on board).serves ∧ board.exec.plan = none ∧ board.noOpenAttempt = true) ∧
    -- not VALID, the third of a run would be the one that counts
    (let b := { volts 1000 901 with valid := false }
     board.accepts (.line 0) b = true ∧ b.valid = false ∧
       ((board.point (.line 0)).store (readingOf b)).invalidRun < 3) ∧
    -- at the ends of the hold band, and one beyond
    (let judged (v : BitVec 16) := (board.source 0).judge (board.srcSet 0) (readingOf (volts v 901))
     board.accepts (.line 0) (volts 850 901) = true ∧ (judged 850).state = (board.source 0).state ∧
       board.accepts (.line 0) (volts 849 901) = true ∧ (judged 849).state ≠ (board.source 0).state ∧
       (judged 849).state ≠ .failed) ∧
    -- a class 1 dip at its ride limit, in a source that feeds no bus
    (let p := (riding.setBreaker (.incomer 0) { riding.breaker (.incomer 0) with position := .opn }).recomputeFeeding
     let p := p.setTime { p.time with now := 3000000 }
     let judged := (p.source 0).judge (p.srcSet 0) (readingOf (volts 800 3000000))
     (on p).serves ∧ p.accepts (.line 0) (volts 800 3000000) = true ∧ judged.state ≠ (p.source 0).state ∧
       judged.state = .failed ∧ ∀ x, (p.bus x).feed ≠ .fed 0) ∧
    -- the same in a source that feeds bus A, which is not in LOCKOUT
    (let p := riding.setTime { riding.time with now := 3000000 }
     let judged := (p.source 0).judge (p.srcSet 0) (readingOf (volts 800 3000000))
     ((on p).serves ∧ p.stoodDown) ∧ p.accepts (.line 0) (volts 800 3000000) = true ∧
       judged.state ≠ (p.source 0).state ∧ judged.state = .failed ∧ (p.bus .a).feed = .fed 0 ∧
       (p.bus .a).lockout = false) := by
  refine ⟨⟨⟨rfl, ?_⟩, rfl, ?_⟩, ?_, ?_, ⟨⟨rfl, ?_⟩, ?_, ?_, ?_, all_buses ?_ ?_⟩, ⟨⟨rfl, ?_⟩, ?_⟩, ?_⟩
  all_goals first | decide +kernel | (unfold Part.stoodDown; decide +kernel)

/-- A reading of three equal magnitudes, as it is judged. -/
def judgedAt (v : Nat) (stamp : Nat) : Reading := ⟨v, v, v, 0, 50000, true, false, false, stamp⟩

theorem witness_ReadingsMoveSourcesBetweenStates :
    let k := SourceSettings.default
    let e := Excursion.first .c1 (judgedAt 800 0)
    (isDead k (judgedAt 200 1) = true ∧ isDead k (judgedAt 201 1) = false ∧ inAccept k (judgedAt 201 1) = false) ∧
      (inAccept k (judgedAt 900 1) = true ∧ inAccept k (judgedAt 899 1) = false) ∧
      (inHold k (judgedAt 850 1) = true ∧ inHold k (judgedAt 849 1) = false) ∧
      (inHold k (judgedAt 900 1) = true ∧ k.recovery ≤ ({ e with run := 2 }).run + 1) ∧
      (inHold k (judgedAt 900 1) = true ∧ ({ e with run := 1 }).run + 1 < k.recovery) ∧
      ((e.extend (depthClass k (judgedAt 800 1)) (judgedAt 800 1)).reached k 3000000 = true ∧
        (e.extend (depthClass k (judgedAt 800 1)) (judgedAt 800 1)).reached k 2999999 = false) := by
  decide +kernel

/-- The board with the live threshold of bus A below its dead threshold. -/
def overlapping : Part :=
  { board with busSettings := ⟨{ board.busSet .a with live := 500, dead := 600 }, board.busSet .b⟩ }

theorem witness_BusReadingsGiveTheLiveState :
    ((on board).serves ∧ board.stoodDown) ∧
      (board.accepts (.bus .a) (volts 200 901) = true ∧ (volts 200 901).valid = true) ∧
      board.accepts (.bus .a) (volts 201 901) = true ∧ board.accepts (.bus .a) (volts 799 901) = true ∧
      board.accepts (.bus .a) (volts 800 901) = true ∧
      -- a reading that meets both LIVE and DEAD
      (let p := overlapping
       (on p).serves ∧ p.stoodDown ∧ p.accepts (.bus .a) (volts 550 901) = true ∧ (p.busSet .a).live ≤ 550 ∧
         550 ≤ (p.busSet .a).dead) := by
  refine ⟨⟨⟨rfl, ?_⟩, ?_⟩, ?_, ?_, ?_, ?_, ⟨rfl, ?_⟩, ?_, ?_⟩
  all_goals first | decide +kernel | (unfold Part.stoodDown; decide +kernel)

theorem witness_GenstatReplacesTheGeneratorRecord :
    ((on board).serves ∧ board.stoodDown) ∧ board.kind 1 ≠ .generator ∧
      (board.kind 2 = .generator ∧ board.sentTo (.source 2) = [] ∧
        -- the same running and eighths
        (board.source 2).gen.running = false ∧ (board.source 2).gen.eighths = min 8 (0 : BitVec 8).toNat) := by
  refine ⟨⟨⟨rfl, ?_⟩, ?_⟩, ?_⟩
  · decide +kernel
  · unfold Part.stoodDown; decide +kernel
  · decide +kernel

/-- A board whose pickup timer of S1 and whose bus timers on A have run out, with the bus last fed by a source. -/
def expired : Part :=
  (board.setSource 0 { board.source 0 with state := .rising, pickup := .running 10000000 10000000 }).setBus .a
    { board.bus .a with
      unplanned := .running 500000 500000
      deadConfirm := .running 100000 100000
      feedAtDead := .fed 0
      returnTimer := .running 1 1 }

theorem witness_SourceAndBusTimersExpire :
    ((on board).calm ∧ (board.source 0).pickup.due = false ∧ (board.bus .a).unplanned.due = false ∧
      (board.bus .a).deadConfirm.due = false ∧ (board.bus .a).returnTimer.due = false) ∧
    ((on expired).calm ∧ (expired.source 0).pickup.due = true ∧ (expired.source 0).state = .rising ∧
      expired.exec.plan = none) ∧
    ((expired.bus .a).unplanned.due = true ∧ (expired.bus .a).deadConfirm.due = true ∧
      (expired.bus .a).lockout = false ∧ (expired.bus .a).feedAtDead ≠ .unfed ∧
      (expired.bus .a).returnTimer.due = true ∧ expired.stoodDown) ∧
    (let p := expired.setBus .a { expired.bus .a with feedAtDead := .unfed }
     (on p).calm ∧ (p.bus .a).deadConfirm.due = true ∧ (p.bus .a).feedAtDead = .unfed) := by
  refine ⟨⟨rfl, ?_⟩, ⟨rfl, ?_⟩, ⟨?_, ?_, ?_, ?_, ?_, ?_⟩, rfl, ?_⟩
  all_goals first | decide +kernel | (unfold Part.stoodDown; decide +kernel)

/-! ### Witnesses: breakers and requests -/

theorem board_stoodDown : board.stoodDown := board_serves.2.2.1

/-- The board with one OPERATE entry QUEUED and due for I3, its execute-at at the end of the minimum lead. -/
def queuedEntry (num : CmdNum) (timed : Nat) : Entry :=
  ⟨num, .breaker (.incomer 2), .opn, timed, .management, false, 1000, 2000000, some 1000, none, false, .stopped⟩

/-- The board with entries in its schedule, its slots free. -/
def scheduled (es : List Entry) : Part := board.setSchedule { board.schedule with entries := es }

theorem witness_StateReportsAreFiltered :
    ((on board).serves ∧ board.stoodDown ∧ board.schedule.entries = [] ∧ board.feedingAgrees ∧
      (board.breaker (.incomer 0)).trip ≠ .busbar ∧ board.onBus (.incomer 0) .a = true) ∧
    -- the coupler, which is on both buses, neither of them in LOCKOUT
    ((board.breaker .coupler).trip ≠ .busbar ∧ board.onBus .coupler .a = true ∧ board.onBus .coupler .b = true ∧
      (board.bus .a).lockout = false ∧ (board.bus .b).lockout = false) ∧
    -- I1, CLOSED and feeding bus A, has just reported OPEN, or TRAVEL: a second report of it is taken
    ∀ after ∈ [(ReportedPosition.opn, Position.opn), (.travel, .travel)],
      let p := board.setBreaker (.incomer 0) { board.breaker (.incomer 0) with lastReported := some after.1 }
      (on p).serves ∧ p.stoodDown ∧ p.schedule.entries = [] ∧ positionOf after.1 ≠ (p.breaker (.incomer 0)).position ∧
        (p.breaker (.incomer 0)).lastReported = some after.1 ∧ (p.breaker (.incomer 0)).position = .closed ∧
        (p.bus .a).feed = .fed 0 ∧ ((p.setPosition (.incomer 0) after.2).bus .a).feed = .unfed ∧
        (p.bus .a).lockout = false := by
  refine ⟨⟨⟨rfl, ?_⟩, board_stoodDown, rfl, ⟨all_buses ?_ ?_, ?_⟩, ?_, ?_⟩, ?_, ?_⟩
  all_goals first | decide +kernel | (unfold State.serves Part.stoodDown; decide +kernel)

theorem witness_NoBlockedCommandIsSent :
    let p := scheduled [queuedEntry 7 3000]
    p.scheduleSound ∧ p.now + p.schedule.settings.minLead = 3000 ∧
      (∃ e ∈ (handOver p).1.schedule.entries, e.sent = true ∧ e.num = 7 ∧ e.target = .breaker (.incomer 2)) ∧
      ∀ e0 ∈ p.schedule.entries, e0.num = 7 → e0.sent = false := by
  refine ⟨?_, ?_, ?_, ?_⟩
  · unfold Part.scheduleSound; decide +kernel
  · decide +kernel
  · decide +kernel
  · decide +kernel

theorem witness_QuestionsAreOnlyAnswered :
    ((on board).serves ∧ board.linkRests) ∧ tableRows 0 = none ∧ tableRows 1 = some 32 ∧
      (32 < 26 + 8 - 1 ∧ 25 + 8 - 1 ≤ 32) := by
  refine ⟨⟨board_serves.1, board_serves.2.1⟩, ?_, ?_, ?_⟩ <;> decide +kernel

/-- The board in AUTO with a halt requested. -/
def halting : Part := { auto with arbiter := { auto.arbiter with halt := true } }

/-- A template of one step that dwells for 0 ms. -/
def plainTemplate : TemplateWrite := ⟨1, 1, [.dwell 0], [], none, false⟩

theorem witness_RefusedWritesChangeNothing :
    ((on board).serves ∧ board.linkRests) ∧ ((on halting).serves ∧ halting.linkRests) ∧
    -- QUIESCENT, VALUE for a count, and ROW
    (halting.writeRefusal 1 1 1 = some .quiescent ∧ halting.writeRefusal 2 1 1 = some .quiescent ∧
      halting.writeRefusal 3 1 1 = some .quiescent ∧ halting.writeRefusal 4 1 1 = some .quiescent ∧
      halting.writeRefusal 14 1 1 = none ∧ auto.writeRefusal 4 1 1 = none) ∧
    (board.writeRefusal 9 1 0 = some .value ∧ board.writeRefusal 9 4 2 = some .row ∧
      board.writeRefusal 10 14 9 = some .value ∧ board.writeRefusal 10 14 8 = none ∧
      board.writeRefusal 10 15 8 = some .row ∧ board.writeRefusal 13 3 1 = some .row ∧
      board.writeRefusal 14 17 1 = some .row ∧ board.writeRefusal 6 3 1 = some .row ∧
      board.writeRefusal 7 2 1 = some .row) ∧
    -- rows that fail
    (board.writeRefusal 7 1 1 = none ∧ judgeRows (judgeLive 7) 1 [.link .line] = .error .value) ∧
    (board.writeRefusal 11 1 1 = none ∧
      judgeRows (judgeLive 11) 1 [.sync { SyncSettings.default with slipMin := 50, slipMax := 49 }] = .error .value) ∧
    (board.writeRefusal 2 1 1 = none ∧ topologyWithAll [.bus none] 1 board.topology = none) ∧
    (judgeRows judgeTemplateRow 1 [{ plainTemplate with stepCount := 2 }] = .error .value ∧
      judgeRows judgeCandidates 1 [[25]] = .error .value ∧ judgeRows judgeCandidates 1 [[3, 3]] = .error .value ∧
      judgeRows judgeSource 1 [{ SourceSettings.default with acceptLo := 1080, acceptHi := 1079 }] = .error .value ∧
      judgeRows judgeBus 1 [{ BusSettings.default with fRestore := 49000 }] = .error .value ∧
      judgeRows judgeGroup 1 [⟨1, 16, false, false⟩] = .error .value ∧
      judgeRows judgeTallies 1 [{ PortTallies.zero with loop := 1 }] = .error .value) := by
  refine ⟨⟨board_serves.1, board_serves.2.1⟩, ⟨⟨rfl, ?_⟩, all_ports ?_ ?_⟩, ?_, ?_, ⟨?_, rfl⟩, ⟨?_, rfl⟩, ?_, rfl, rfl,
    rfl, rfl, rfl, rfl, rfl⟩ <;> decide +kernel

theorem witness_WritesReplaceTheirRows :
    ((on board).serves ∧ board.linkRests ∧ board.scheduleEmpty) ∧
    (board.writeRefusal 3 24 1 = none ∧ (∃ ts, judgeRows judgeTemplateRow 24 [plainTemplate] = .ok (ts, []))) ∧
    (board.writeRefusal 4 6 1 = none ∧ (∃ ls, judgeRows judgeCandidates 6 [[1, 24]] = .ok (ls, []))) ∧
    (board.writeRefusal 10 21 1 = none ∧
      (∃ ks refs, judgeRows judgeBreaker 21 [⟨200001, 9999, 19, 65535⟩] = .ok (ks, refs) ∧ refs ≠ [])) ∧
    (board.writeRefusal 6 2 1 = none ∧ (∃ ts, judgeRows judgeTallies 2 [PortTallies.zero] = .ok (ts, []))) ∧
    (board.writeRefusal 15 1 1 = none ∧
      (∃ ks refs, judgeRows (judgeLive 15) 1 [.management 1001] = .ok (ks, refs) ∧ refs ≠ [])) := by
  refine ⟨⟨board_serves.1, board_serves.2.1, board_serves.2.2.2⟩, ⟨?_, _, rfl⟩, ⟨?_, _, rfl⟩, ⟨?_, _, _, rfl, ?_⟩,
    ⟨?_, _, rfl⟩, ?_, _, _, rfl, ?_⟩ <;> decide +kernel

theorem witness_WritesThatReachTheLoadManager :
    ((on board).serves ∧ board.linkRests ∧ board.stoodDown) ∧
    (board.writeRefusal 9 4 1 = none ∧ (∃ ks, judgeRows judgeSource 4 [SourceSettings.default] = .ok (ks, []))) ∧
    (board.writeRefusal 13 2 1 = none ∧ (∃ ks, judgeRows judgeBus 2 [BusSettings.default] = .ok (ks, []))) ∧
    (board.writeRefusal 14 16 1 = none ∧
      (∃ ks, judgeRows judgeGroup 16 [⟨1, 14, false, false⟩] = .ok (ks, []) ∧
        rankRefusal (overlay groupWith ks 15 board.groups) = some .duplicateRank) ∧
      (∃ ks, judgeRows judgeGroup 16 [⟨1, 0, false, false⟩] = .ok (ks, []) ∧
        rankRefusal (overlay groupWith ks 15 board.groups) = none)) ∧
    (board.writeRefusal 2 1 1 = none ∧
      (∃ top, topologyWithAll [.source .unused .b] 1 board.topology = some top ∧ topologyRefused top = false ∧
        top.kind.get 0 = .unused ∧ board.kind 0 ≠ .unused) ∧
      (∃ top, topologyWithAll [.bus (some 1)] 5
        { board.topology with kind := #v[.utility, .unused, .generator, .generator] } = some top ∧
        topologyRefused top = true)) := by
  refine ⟨⟨board_serves.1, board_serves.2.1, board_stoodDown⟩, ⟨?_, _, rfl⟩, ⟨?_, _, rfl⟩, ⟨?_, ⟨_, rfl, ?_⟩, _, rfl, ?_⟩, ?_,
    ⟨_, rfl, ?_, ?_, ?_⟩, _, rfl, ?_⟩ <;> decide +kernel

theorem witness_UnitMapWritesReplaceTheirRows :
    let new (ks : List UnitMapRow) := overlay (fun _ r => r) ks 0 bare.unitMap
    ((on bare).serves ∧ bare.linkRests ∧ bare.writeRefusal 1 1 1 = none ∧ (∀ r, bare.unit r = UnitRecord.init)) ∧
    (∃ ks refs, judgeRows judgeUnitRow 1 [⟨254, .timeMaster, true, true, 3000, 4⟩] = .ok (ks, refs) ∧
      mapRefusal (new ks) = none) ∧
    (∃ ks refs, judgeRows judgeUnitRow 1
        [⟨5, .timeMaster, true, true, 3000, 4⟩, ⟨6, .timeMaster, true, true, 3000, 4⟩] = .ok (ks, refs) ∧
      mapRefusal (new ks) = some .duplicateRole) ∧
    (rowBound (board.row 0) = true ∧ board.writeRefusal 1 1 1 = none) := by
  refine ⟨⟨⟨rfl, ?_⟩, all_ports ?_ ?_, ?_, ?_⟩, ⟨_, _, rfl, ?_⟩, ⟨_, _, rfl, ?_⟩, ?_⟩ <;> decide +kernel

theorem witness_StartEntersAuto :
    ((on auto).serves ∧ auto.arbiter.mode = .auto ∧ auto.linkRests) ∧
    ((on board).serves ∧ board.arbiter.mode = .halted ∧ board.checkFailures = []) ∧
    (let p := board.setRow 0 { board.row 0 with station := 0 }
     (on p).serves ∧ p.linkRests ∧ p.arbiter.mode = .halted ∧ p.checkFailures ≠ []) ∧
    -- every channel OFF, bus A LIVE and fed, bus B DEAD
    (let p := { board.setBus .b { board.bus .b with live := .dead } with
       channels := mapAll (fun (r : ChannelRecord) => { r with enable := false, pending := true }) board.channels }
     (on p).serves ∧ p.checkFailures = [] ∧ p.linkRests ∧ p.stoodDown ∧ (∀ c, (p.channel c).enable = false) ∧
       (p.bus .a).live = .live ∧ (p.bus .a).feed ≠ .unfed ∧ (p.bus .b).lockout = false ∧ p.hasSupply .b = true ∧
       (p.bus .b).live ≠ .live) := by
  refine ⟨⟨⟨rfl, ?_⟩, rfl, all_ports ?_ ?_⟩, ⟨⟨rfl, ?_⟩, rfl, ?_⟩, ⟨⟨rfl, ?_⟩, all_ports ?_ ?_, rfl, ?_⟩,
    ⟨rfl, ?_⟩, ?_, all_ports ?_ ?_, ?_, all_channels ?_, ?_⟩
  all_goals first | decide +kernel | (unfold Part.stoodDown; decide +kernel)

theorem witness_HaltStopsThePart :
    ((on board).serves ∧ board.linkRests ∧ board.arbiter.mode = .halted) ∧
    ((on halting).serves ∧ halting.linkRests ∧ halting.arbiter.mode = .auto ∧ halting.arbiter.halt = true) ∧
    ∀ e : ExecState,
      let p := auto.setExec { auto.exec with state := e }
      (on p).serves ∧ p.linkRests ∧ p.arbiter.mode = .auto ∧ p.arbiter.halt = false ∧ p.exec.state = e := by
  refine ⟨⟨board_serves.1, board_serves.2.1, rfl⟩, ⟨⟨rfl, ?_⟩, all_ports ?_ ?_, rfl, rfl⟩, ?_⟩
  · decide +kernel
  · decide +kernel
  · decide +kernel
  · intro e
    refine ⟨⟨rfl, ?_⟩, all_ports ?_ ?_, rfl, rfl, rfl⟩ <;> cases e <;> decide +kernel

theorem witness_RestartGivesRestartValues :
    ((on board).serves ∧ board.linkRests ∧ board.guard.state = .absent) ∧
    (let p := { board with guard := { board.guard with state := .running } }
     (on p).serves ∧ p.linkRests ∧ p.guard.state ≠ .absent) := by
  refine ⟨⟨board_serves.1, board_serves.2.1, rfl⟩, ⟨rfl, ?_⟩, all_ports ?_ ?_, ?_⟩ <;> decide +kernel

theorem witness_RequestsRaiseTheirChannels :
    ((on board).serves ∧ board.linkRests ∧ board.stoodDown) ∧ (24 : Nat) < 25 ∧ (16 : Nat) < 17 ∧
      (24 : Nat) = (23 : Fin 24).val + 1 ∧ (16 : Nat) = (15 : Grp).val + 1 ∧
      (board.channel .operator).enable = true ∧ (board.group 15).mark = false ∧
      ((board.setGroup 15 { board.group 15 with mark := true }).group 15).mark = true := by
  refine ⟨⟨board_serves.1, board_serves.2.1, board_stoodDown⟩, ?_⟩; decide +kernel

theorem witness_ConfirmAndSetChannel :
    ((on board).serves ∧ board.linkRests ∧ board.stoodDown) ∧ (11 : Nat) < 12 ∧
      (board.channel .operator).engaged ≠ .held ∧
      (let p := board.setChannel .operator { board.channel .operator with engaged := .held }
       ((on p).serves ∧ p.linkRests) ∧ (p.channel .operator).engaged = .held ∧
         ∀ d ∈ Channel.descending, (p.channel d).pending = false) := by
  refine ⟨⟨board_serves.1, board_serves.2.1, board_stoodDown⟩, ?_, ?_, ⟨⟨rfl, ?_⟩, all_ports ?_ ?_⟩, ?_, ?_⟩ <;>
    decide +kernel

theorem witness_AckClearsTheNamedConditions :
    ((on board).serves ∧ board.linkRests) ∧ none ∈ [some Flag.unitLost, none] ∧
      (none : Option Flag) ∉ [some Flag.unitLost] ∧ board.standing .unitLost = false ∧
      (let p := board.setUnit 0 { board.unit 0 with state := .lost }
       ((on p).serves ∧ p.linkRests) ∧ p.standing .unitLost = true) ∧ (board.condition .unitLost).set = false := by
  refine ⟨⟨board_serves.1, board_serves.2.1⟩, ?_, ?_, ?_, ⟨⟨⟨rfl, ?_⟩, all_ports ?_ ?_⟩, ?_⟩, ?_⟩ <;> decide +kernel

theorem witness_ClearFaultsEmptiesTheLog :
    ((on board).serves ∧ board.linkRests) ∧
    -- a tally one below its top and at it, and a log that holds a fault
    (let full := { FaultLog.init with tallies := FaultLog.init.tallies.set 8 ⟨255, false⟩ }
     (full.record (blankFault .noPath)).tallies.get 8 = ⟨255, true⟩ ∧
       (({ full with tallies := full.tallies.set 8 ⟨254, false⟩ }).record (blankFault .noPath)).tallies.get 8 =
         ⟨255, false⟩ ∧ (full.record (blankFault .noPath)).first.isSome = true) := by
  refine ⟨⟨board_serves.1, board_serves.2.1⟩, ?_⟩
  decide +kernel

theorem witness_OperateIsRefusedQueuedOrSent :
    ((on auto).serves ∧ auto.linkRests ∧ auto.arbiter.mode = .auto) ∧
    ((on board).serves ∧ board.linkRests ∧ board.arbiter.mode = .halted ∧ (21 : Nat) < 22 ∧
      21 = (Breaker.feeder 15).number ∧ some Action.run ≠ some .opn ∧ some Action.run ≠ some .close) ∧
    (let p := scheduled ((List.range 16).map (fun n => queuedEntry (BitVec.ofNat 8 n) 3000))
     (on p).serves ∧ p.linkRests ∧ 16 ≤ p.schedule.entries.length) ∧
    (let p := board.setPort .one busyPort
     (on p).serves ∧ p.linkRests ∧ p.schedule.entries = [] ∧ p.slotsFree = false) ∧
    (let p := atTime .unsynced
     (on p).serves ∧ p.arbiter.mode = .halted ∧ p.scheduleEmpty ∧ p.slotsFree = true ∧ p.timeGood = false ∧
       p.blockCause (.incomer 2) .opn .management = none ∧ p.blockCause (.feeder 0) .close .management = none ∧
       -- a port that is UP with its transmitter free, and one whose transmitter is busy
       (let q := (p.setPort .one { p.port .one with up := true }).setPort .two { busyPort with command := none }
        q.slotsFree = true ∧ (q.port .one).up = true ∧ (q.port .one).sending = none ∧
          (q.port .two).up = true ∧ (q.port .two).sending ≠ none)) := by
  refine ⟨⟨⟨rfl, ?_⟩, all_ports ?_ ?_, rfl⟩, ⟨board_serves.1, board_serves.2.1, rfl, ?_⟩,
    ⟨⟨rfl, ?_⟩, all_ports ?_ ?_, ?_⟩, ⟨⟨rfl, ?_⟩, all_ports ?_ ?_, rfl, ?_⟩, ⟨rfl, ?_⟩, rfl, ⟨rfl, rfl⟩, ?_⟩ <;>
    decide +kernel

theorem witness_ServiceRequestsMoveSourcesAndBreakers :
    ((on board).serves ∧ board.linkRests ∧ board.stoodDown) ∧ (4 : Nat) < 5 ∧ (4 : Nat) = (3 : Src).val + 1 ∧
      (board.fedDomain 0).a = true ∧ (board.fedDomain 3).a = false ∧ (board.fedDomain 3).b = false ∧
      (21 : Nat) < 22 ∧ (board.breaker .coupler).failed = false ∧
      (let p := board.setBreaker .coupler { board.breaker .coupler with failed := true }
       (on p).serves ∧ p.linkRests ∧ p.stoodDown ∧ (p.breaker .coupler).failed = true) := by
  refine ⟨⟨board_serves.1, board_serves.2.1, board_stoodDown⟩, ?_, ?_, ?_, ?_, ?_, ?_, ?_, ⟨rfl, ?_⟩, all_ports ?_ ?_, ?_, ?_⟩
  all_goals first | decide +kernel | (unfold Part.stoodDown; decide +kernel)

theorem witness_ClearLockoutEndsALockout :
    ((on board).serves ∧ board.linkRests ∧ (board.bus .a).lockout = false) ∧
    (let p := board.setBus .a { board.bus .a with lockout := true }
     ((on p).serves ∧ p.linkRests ∧ (p.bus .a).lockout = true ∧
       ∀ b ∈ allBreakers, p.onBus b .a = true → (p.breaker b).trip ≠ .busbar) ∧
     (let q := p.setBreaker .coupler { p.breaker .coupler with trip := .busbar }
      (on q).serves ∧ q.linkRests ∧ (q.bus .a).lockout = true ∧
        ∃ b, q.onBus b .a = true ∧ (q.breaker b).trip = .busbar)) := by
  refine ⟨⟨board_serves.1, board_serves.2.1, rfl⟩, ⟨⟨rfl, ?_⟩, all_ports ?_ ?_, rfl, ?_⟩, ⟨rfl, ?_⟩, all_ports ?_ ?_,
    rfl, .coupler, ?_⟩ <;> decide +kernel

/-! ### Witnesses: plan execution, the schedule, closing, selection and load -/

/-- A plan of OPERATOR with a step and a DWELL of 5 ms after it. -/
def planOf (s : Step) : Plan := ⟨.operator, .number 2, 301, [s, .dwell 5], none⟩

/-- The board in AUTO with a plan at its first step, in a phase, its step timer and the sync timer run out. -/
def running (s : Step) (phase : Phase) : Part :=
  { auto with
    exec := ⟨.running, some (planOf s), 1, some phase, [], .running 7000 7000, none, false, 4, none, false⟩
    currentPlan := some ⟨4, .operator, .number 2, 301, none, 500, none, none,
      [⟨s, none, none, []⟩, ⟨.dwell 5, some .notReached, none, []⟩], ⟨.none, none, none, none⟩⟩
    channels := (auto.setChannel .operator { auto.channel .operator with engaged := .running }).channels
    syncTimer := .running 60000000 60000000 }

theorem running_sound (s : Step) (phase : Phase) : (running s phase).planSound (planOf s) :=
  ⟨Nat.le_refl 1, by simp [running, planOf], ⟨_, rfl, rfl, rfl⟩, by intro r h; simp [running, auto, board, bare] at h; cases h⟩

theorem witness_DwellStepsWaitTheirTime :
    (let p := (running (.dwell 7) .timer).setExec { (running (.dwell 7) .timer).exec with phase := none }
     p.stepRuns 4 1 = true ∧ p.exec.phase = none ∧ p.currentStep = some (.dwell 7)) ∧
    (let p := (running (.dwell 0) .timer).setExec { (running (.dwell 0) .timer).exec with phase := none }
     p.stepRuns 4 1 = true ∧ p.exec.phase = none ∧ p.currentStep = some (.dwell 0)) ∧
    (on (running (.dwell 7) .timer)).calm ∧ (running (.dwell 7) .timer).timerOut (.dwell 7) ∧
      (running (.dwell 7) .timer).exec.plan = some (planOf (.dwell 7)) ∧
      (planOf (.dwell 7)).steps[(running (.dwell 7) .timer).exec.step]? = some (.dwell 5) := by
  refine ⟨?_, ?_, rfl, ?_, rfl, rfl⟩
  · decide +kernel
  · decide +kernel
  · unfold Part.timerOut; decide +kernel

/-- A guard that runs, with its timer run out. -/
def guarded (p : Part) : Part :=
  { p with
    guard := ⟨.running, .incomer 0, true, false, 500, 150000, .running 150000 150000, none, 4, .retn .a, .number 6,
      .bus .a, .line 0⟩ }

theorem witness_WaitTimersSkipOrFail :
    (let p := running (.waitDead (.bus .a) 10 true) .timer
     (on p).calm ∧ p.timerOut (.waitDead (.bus .a) 10 true) ∧ p.exec.plan = some (planOf (.waitDead (.bus .a) 10 true)) ∧
       (planOf (.waitDead (.bus .a) 10 true)).steps[p.exec.step]? = some (.dwell 5)) ∧
    (∀ s : Step, s = .waitHealthy 2 1 ∨ s = .waitDead (.bus .a) 10 false →
      let p := guarded (running s .timer)
      (on p).calm ∧ p.exec.plan = some (planOf s) ∧ p.runningChannel = some .operator ∧ p.guard.state ≠ .absent ∧
        p.exec.outstanding = [] ∧ p.timerOut s) := by
  refine ⟨⟨rfl, ?_, rfl, rfl⟩, ?_⟩
  · unfold Part.timerOut; decide +kernel
  · intro s h
    refine ⟨rfl, rfl, ?_, ?_, rfl, ?_⟩
    · rcases h with rfl | rfl <;> decide +kernel
    · rcases h with rfl | rfl <;> decide +kernel
    · unfold Part.timerOut; rcases h with rfl | rfl <;> decide +kernel

theorem witness_GuardExpirySendsTheTrip :
    ((on board).calm ∧ board.guard.timer.due = false) ∧
    (on (guarded board)).calm ∧ (guarded board).guard.timer.due = true ∧ (guarded board).guard.state = .running ∧
      (guarded board).scheduleEmpty ∧ (guarded board).exec.state ≠ .running ∧
      -- both buses watched
      (let p := { board with guard := { (guarded board).guard with watchB := true } }
       (on p).calm ∧ p.guard.timer.due = true ∧ p.guard.state = .running ∧ p.scheduleEmpty ∧
         p.exec.state ≠ .running ∧ p.guard.watchA = true ∧ p.guard.watchB = true) := by
  refine ⟨⟨rfl, ?_⟩, rfl, ?_, rfl, ⟨rfl, rfl⟩, ?_, rfl, ?_, rfl, ⟨rfl, rfl⟩, ?_, rfl, rfl⟩ <;> decide +kernel

/-- An attempt that waits, of the first step of a plan of OPERATOR. -/
def waitingAttempt : AttemptRecord :=
  ⟨.waiting, .incomer 2, .bus .a, .line 2, 0, .operator, .number 2, 1, 500, none, none, none, none, 0, 0, 0, 0, 0⟩

/-- The board at a SYNC step whose attempt has waited out its time, with every channel closed. -/
def synching : Part :=
  let p := running (.sync (.incomer 2) (.bus .a) (.line 2) 0) .attempt
  { p with
    attempt := some waitingAttempt
    channels := mapAll (fun (r : ChannelRecord) => { r with enable := false }) p.channels }

theorem witness_SyncTimeLimitFailsTheAttempt :
    ((on board).calm ∧ board.syncTimer.due = false) ∧
    ((on synching).calm ∧ synching.syncTimer.due = true ∧ synching.attempt = some waitingAttempt ∧
      waitingAttempt.state = .waiting ∧ waitingAttempt.entry = none ∧ synching.channelsClosed ∧
      synching.guard.state = .absent) ∧
    synching.exec.plan = some (planOf (.sync (.incomer 2) (.bus .a) (.line 2) 0)) ∧ synching.exec.state = .running ∧
      synching.exec.phase = some .attempt ∧
      synching.currentStep = some (.sync waitingAttempt.breaker waitingAttempt.reference waitingAttempt.incoming
        waitingAttempt.set) ∧
      synching.exec.outstanding = [] ∧ synching.runningChannel = some .operator ∧ synching.arbiter.abort = .none := by
  refine ⟨⟨rfl, ?_⟩, ⟨rfl, ?_, rfl, rfl, rfl, all_channels ?_, rfl⟩, rfl, rfl, rfl, ?_, rfl, ?_, rfl⟩ <;> decide +kernel

/-- An entry that is not due before station time 11,000, on the board at station time 1000 with a send lead of 10 ms. -/
def laterEntry (num : CmdNum) (time : Nat) : Entry := { queuedEntry num time with dueSince := none }

/-- A SENT entry of OPERATE for I3 whose deadline has run out. -/
def sentEntry : Entry :=
  { queuedEntry 7 3000 with sent := true, sendStamp := some 1000, deadline := .running 250000 250000 }

theorem witness_EntriesComeDueAndTimeOut :
    (let p := scheduled [laterEntry 7 11001]
     (on p).calm ∧ ∀ e, p.entry 7 = some e →
       e.sent = true ∨ e.dueSince.isSome = true ∨ p.now + p.schedule.settings.sendLead < e.executeAt) ∧
    (let p := (scheduled [laterEntry 7 11000]).setPort .one busyPort
     (on p).calm ∧ p.entry 7 = some (laterEntry 7 11000) ∧
       (laterEntry 7 11000).executeAt ≤ p.now + p.schedule.settings.sendLead ∧ p.scheduleSound ∧ p.slotsFree = false ∧
       ∀ e' ∈ p.schedule.entries, e'.isGuard = false) ∧
    (let p := scheduled [sentEntry]
     (on p).calm ∧ p.entry 7 = some sentEntry ∧ sentEntry.deadline.due = true ∧
       p.roleActive (.breaker (.incomer 2)) = true ∧ p.stoodDown) ∧
    (let p := (scheduled [sentEntry]).setUnit 8 { board.unit 8 with state := .lost }
     (on p).calm ∧ p.entry 7 = some sentEntry ∧ p.roleActive (targetRole sentEntry.target) = false) := by
  refine ⟨⟨rfl, ?_⟩, ⟨rfl, rfl, ?_, ?_, ?_, ?_⟩, ⟨rfl, rfl, ?_, ?_, ?_⟩, rfl, rfl, ?_⟩
  · intro e h
    have : e = laterEntry 7 11001 := Option.some.inj (h.symm.trans rfl)
    subst this
    exact .inr (.inr (by decide +kernel))
  · decide +kernel
  · unfold Part.scheduleSound; decide +kernel
  · decide +kernel
  · decide +kernel
  · decide +kernel
  · decide +kernel
  · unfold Part.stoodDown; decide +kernel
  · decide +kernel

theorem witness_CommandNumbersAreFresh :
    (let p := scheduled ((List.range 16).map (fun n => queuedEntry (BitVec.ofNat 8 n) 3000))
     p.schedule.entries.length ≤ 16 ∧ p.nextNumber (.breaker .coupler) = 16) ∧
    (∃ q, (board.setSchedule { board.schedule with next := 255 }).insertEntry (.source 2) .run .management none =
      .ok (q, 255)) ∧
    (scheduled [laterEntry 7 11001]).retimeEntry 7 3000 ≠ none := by
  refine ⟨?_, ⟨_, rfl⟩, ?_⟩ <;> decide +kernel

theorem witness_AngleDifferenceIsSigned :
    let k := SyncSettings.default
    let at' (angle freq : Nat) : Reading := ⟨1000, 1000, 1000, angle, freq, true, false, false, 900⟩
    -- a standing pair at the angle limit and one beyond it, and slipping pairs both ways
    ∀ q ∈ [at' 100 50000, at' 101 50004, at' 3300 50005, at' 3300 49995],
      ((q.magA : Int) - ((at' 0 50000).magA : Int)).natAbs ≤ k.dVmax ∧
        ((q.freq : Int) - ((at' 0 50000).freq : Int)).natAbs ≤ k.slipMax ∧ k.direction ≠ .incomingFaster := by
  decide +kernel

theorem witness_NextCycleIsTheFirstInTime : (0 : Int) < 1 ∧ (5 : Int) ≤ 3 + ((2 : Nat) : Int) * 1 := by decide

theorem witness_CapacityFitShedsNoMoreThanNeeded :
    let p := { board with
      breakers := mapIndexed (fun _ (r : BreakerRecord) => { r with position := .closed }) board.breakers }
    (p.fit .a 3599).pass = true ∧ (p.fit .a 0).pass = false ∧ (p.fit .a 3599).shed = [] ++ [1] ∧
      (p.fit .a 3600).shed = [] := by
  decide +kernel

/-- The board at which A leads S1 and is LIVE with stage timers run out; G2 and G3 are shed, and S1 may carry 1000 kW. -/
def loaded (restore : RestoreStage) : Part :=
  let out := Timer.running 1 1
  let p := board.setStage .a
    { board.stage .a with freqTimer := out, capTimer := out, restore := restore, settle := out, stagger := out }
  (p.setGroup 1 { p.group 1 with mark := true }).setGroup 2 { p.group 2 with mark := true }

theorem witness_StageTimersRaiseShed :
    ((on board).calm ∧ (board.stage .a).freqTimer.due = false ∧ (board.stage .a).capTimer.due = false) ∧
    (on (loaded .stopped)).calm ∧ (loaded .stopped).stoodDown ∧ ((loaded .stopped).livelyLeads .a).isSome = true ∧
      ((loaded .stopped).stage .a).freqTimer.due = true ∧ ((loaded .stopped).stage .a).capTimer.due = true := by
  refine ⟨⟨rfl, ?_⟩, rfl, ?_, ?_⟩
  · decide +kernel
  · unfold Part.stoodDown; decide +kernel
  · decide +kernel

theorem witness_RestorationTimersBringLoadBack :
    ((on board).calm ∧ (board.stage .a).settle.due = false ∧ (board.stage .a).stagger.due = false) ∧
    (let p := loaded .settling
     (on p).calm ∧ p.stoodDown ∧ p.restoreHolds .a = true ∧ p.frequencyCause .a = false ∧ p.overloaded .a = false ∧
       (p.stage .a).settle.due = true ∧ (p.stage .a).restore = .settling) ∧
    (let p := loaded .staggering
     (on p).calm ∧ p.stoodDown ∧ p.restoreHolds .a = true ∧ p.frequencyCause .a = false ∧ p.overloaded .a = false ∧
       (p.stage .a).stagger.due = true ∧ (p.stage .a).restore = .staggering ∧ p.leads .a = some 0 ∧
       p.restoreCandidate 0 = some 2 ∧ p.groupState 2 ≠ .unavailable) ∧
    -- a demand equal to the headroom fits, and one above it does not
    (((loaded .staggering).group 2).demand : Int) ≤ (loaded .staggering).headroom 0 ∧
    (let p := (loaded .staggering).setGroup 2 { (loaded .staggering).group 2 with demand := 900 }
     p.headroom 0 = ((p.group 2).demand : Int) ∧ p.restoreCandidate 0 = some 2) ∧
    (let p := (loaded .staggering).setGroup 2 { (loaded .staggering).group 2 with demand := 901 }
     p.headroom 0 < ((p.group 2).demand : Int) ∧ p.restoreCandidate 0 = some 2) := by
  refine ⟨⟨rfl, ?_⟩, ⟨rfl, ?_, ?_⟩, ⟨rfl, ?_, ?_⟩, ?_⟩
  all_goals first | decide +kernel | (unfold Part.stoodDown; decide +kernel)

theorem witness_StatusTimerSendsAStatusFrame :
    ((on board).calm ∧ board.management.statusTimer.due = false) ∧
    (let p := board.setManagement { board.management with statusTimer := .running 100000 100000 }
     (on p).calm ∧ p.management.statusTimer.due = true ∧ p.linkRests) := by
  refine ⟨⟨rfl, ?_⟩, rfl, ?_, all_ports ?_ ?_⟩ <;> decide +kernel

theorem witness_TheFirstFitTemplateIsChosen :
    let p := { board with
      templates := (board.templates.set 1 { Template.init with steps := [.dwell 0] }).set 2
        { Template.init with steps := [.dwell 0] } }
    (p.judgeList [0, 1, 2]).map (·.result) = [.empty, .chosen, .notJudged] := by decide +kernel

/-! ### Well-formedness: each check refuses an ill-formed command -/

theorem test_wf_sender :
    (Instr.start ⟨0, 1⟩).wf = false ∧ (Instr.start ⟨255, 1⟩).wf = false ∧ (Instr.start ⟨1, 1⟩).wf = true ∧
      (Instr.start ⟨254, 1⟩).wf = true := by decide

theorem test_wf_frame :
    frameWf (List.replicate 13 0) = false ∧ frameWf (List.replicate 14 0) = true ∧
      frameWf (List.replicate 1518 0) = true ∧ frameWf (List.replicate 1519 0) = false := by decide +kernel

theorem test_wf_announce :
    (Instr.announce .one ⟨0, 0, .manager, 1⟩).wf = false ∧ (Instr.announce .one ⟨255, 0, .manager, 1⟩).wf = false ∧
      (Instr.announce .one ⟨254, 0, .manager, 1⟩).wf = true := by decide

/-! ### Frames written out byte by byte (R9) -/

theorem test_reading_frame :
    frameOf (frameTo 1 1 7 [0x03, 0xE8, 0x03, 0xE7, 0x03, 0xE6, 0x0E, 0x10, 0xC3, 0x50, 0x02]) =
      some (⟨7, 1, 0⟩, .reading ⟨1000, 999, 998, 3600, 50000, false, true, 0⟩) := by decide +kernel

theorem test_state_frame :
    frameOf (frameTo 1 2 7 [3, 5, 2, 40, 3]) =
        some (⟨7, 1, 0⟩, .state ⟨.faulty, true, false, true, .busbar, 40, .refusedNotReady⟩) ∧
      frameOf (frameTo 1 2 7 [4, 5, 2, 40, 3]) = none ∧ frameOf (frameTo 1 2 7 [3, 5, 3, 40, 3]) = none ∧
      frameOf (frameTo 1 2 7 [3, 5, 2, 40, 5]) = none := by decide +kernel

theorem test_genstat_and_time_frames :
    frameOf (frameTo 1 3 7 [1, 0, 9, 1]) = some (⟨7, 1, 0⟩, .genstat ⟨true, false, 9, true⟩) ∧
      frameOf (frameTo 1 3 7 [2, 0, 9, 1]) = none ∧
      frameOf (frameTo 1 4 7 [0, 1, 0, 0, 0, 2]) = some (⟨7, 1, 0⟩, .time 4294967298) := by decide +kernel

theorem test_announce_and_request_frames :
    frameOf (frameTo 1 5 7 [7, 4, 1]) = some (⟨7, 1, 0⟩, .announce .timeMaster 1) ∧
      frameOf (frameTo 1 5 7 [8, 4, 1]) = none ∧ frameOf (frameTo 1 5 7 [7, 6, 1]) = none ∧
      frameOf (frameTo 1 7 7 [1, 2, 3, 4]) = some (⟨7, 1, 0⟩, .request 258 3 [4]) ∧
      frameOf (frameTo 1 6 7 [1, 1, 1, 1, 0, 0, 0, 0, 0, 0]) = none := by decide +kernel

/-- The bytes of a COMMAND frame to the line multicast address, and of the headers of a RESPONSE to station 60 and a STATUS
frame, written out from the tables of R9. -/
theorem test_own_frame_bytes :
    openCoupler.bytes =
        [0x03, 0x4E, 0x53, 0, 0, 0, 0x02, 0x4E, 0x53, 0, 0, 1, 0x9A, 0x40, 6, 1, 0, 1, 0, 0, 0, 0, 1, 2, 0, 1, 5, 1, 0, 0,
          0, 0, 0, 0] ∧
      ({ openCoupler with num := 255, target := .source 3, action := .stop, executeAt := 4294967298 }).bytes.drop 24 =
        [255, 2, 4, 4, 0, 1, 0, 0, 0, 2] ∧
      (⟨.station 60, 254, 65535, 3⟩ : OwnHeader).bytes 8 =
        [0x02, 0x4E, 0x53, 0, 0, 60, 0x02, 0x4E, 0x53, 0, 0, 254, 0x9A, 0x40, 8, 254, 255, 255, 0, 0, 0, 0, 0, 3] ∧
      ((⟨.broadcast, 1, 0, 0⟩ : OwnHeader).bytes 9).take 6 = [255, 255, 255, 255, 255, 255] := by decide +kernel

/-! ### Commands and operations against figures of the spec -/

theorem test_powerOn_straps :
    (after (.powerOn 255) State.reset).part.numbered = false ∧ (after (.powerOn 254) State.reset).part.numbered = true :=
  by decide +kernel

theorem test_frameReceived_takes_a_reading :
    let t := after (.frameReceived .one true
      (frameTo 1 1 2 [0x03, 0x20, 0x03, 0x20, 0x03, 0x20, 0x0E, 0x11, 0xC3, 0x50, 0x01])) (on
        (linked.setPoint (.line 0) { linked.point (.line 0) with lastStamp := none }))
    (t.part.source 0).state = .riding ∧ ((t.part.point (.line 0)).latest.map (·.angle)) = some 1 ∧
      (t.part.unit 0).expected = 2 := by decide +kernel

/-- The sequence of the coupler's unit that drops out and comes back (01, worked sequence): state, expected, miss. -/
def dropOut : List (UnitRecord × Supervised) :=
  let row : UnitMapRow := ⟨37, .breaker .coupler, false, false, 300, 4⟩
  ([100, 101, 105, 103, 107, 108, 109, 110, 111] : List SeqNum).foldl
    (fun acc seq => acc ++ [superviseUnit row ((acc.getLast?.map (·.1)).getD UnitRecord.init) seq 0]) []

theorem test_supervision_sequence :
    dropOut.map (fun u => (u.1.state, u.1.expected, u.1.miss, u.1.rejoin)) =
      [(.active, 101, 0, 0), (.active, 102, 0, 0), (.active, 106, 3, 0), (.active, 106, 3, 0), (.lost, 108, 4, 0),
        (.lost, 109, 4, 1), (.lost, 110, 4, 2), (.lost, 111, 4, 3), (.active, 112, 0, 0)] ∧
      (dropOut.map (fun u => u.2 == .passed)) = [true, true, true, false, false, false, false, false, true] := by
  decide +kernel

theorem test_timeFrame_steps_at_power_on :
    let t := (after (.timeFrame 7000000000) (on (bare.setTime { bare.time with now := 2350000 }))).part.time
    t.now = 7000000100 ∧ t.state = .locking ∧ t.lastError = some 6997650100 ∧ t.correction = 0 := by decide +kernel

theorem test_timeFrame_locks_and_slews :
    let t := (after (.timeFrame 7001000000) (on (bare.setTime
      { bare.time with now := 7001000130, state := .locking, lastFrame := some 7000000100 }))).part.time
    t.now = 7001000130 ∧ t.state = .locked ∧ t.correction = -30 ∧ t.slewInterval = 1000030 := by decide +kernel

/-- The readings of the weld dip after the first (03, worked sequence): stamp and phases. -/
def weldDip : List Reading :=
  [(20000, 800, 780, 810), (40000, 560, 520, 545), (60000, 640, 610, 630), (80000, 880, 890, 900),
    (100000, 870, 840, 860), (120000, 905, 900, 910), (140000, 930, 920, 925), (160000, 950, 945, 940)].map
    (fun r : Nat × Nat × Nat × Nat => ⟨r.2.1, r.2.2.1, r.2.2.2, 0, 49950, true, false, false, r.1⟩)

theorem test_weld_dip :
    let q := weldDip.foldl (fun q r => q.judge SourceSettings.default r) { SourceRecord.init with state := .healthy }
    q.state = .healthy ∧ q.history = [⟨20000, 100, 520, .c2, .recovered⟩] ∧ q.dips = 1 := by decide +kernel

theorem test_capacity_figures :
    let p := { board with
      sourceSettings := #v[{ SourceSettings.default with rated := 20000 }, { SourceSettings.default with rated := 15333 },
        { SourceSettings.default with rated := 7500, loading := 85 },
        { SourceSettings.default with rated := 7500, loading := 85 }] }
    let p := p.setSource 2 { p.source 2 with gen := ⟨true, true, 3, false⟩ }
    p.capacity 0 = 18000 ∧ p.capacity 1 = 13799 ∧ p.capacity 2 = 2390 ∧ p.capacity 3 = 0 ∧ p.fullEighths 3 = 6375 := by
  decide +kernel

theorem test_genstat_counts_eighths_to_8 :
    ((after (.genstat 2 ⟨true, true, 200, false⟩) (on board)).part.source 2).gen = ⟨true, true, 8, false⟩ := by
  decide +kernel

/-- The board of the incomer that trips on its own (04), after its second OPEN report. -/
theorem test_stateReport_takes_a_second_open :
    let r : BreakerReport := ⟨.opn, true, true, false, .circuit, 0, .noCommand⟩
    let once := after (.stateReport (.incomer 0) r) (on (board.setBreaker (.incomer 0)
      { board.breaker (.incomer 0) with lastReported := some .closed }))
    let twice := after (.stateReport (.incomer 0) r) once
    (once.part.breaker (.incomer 0)).position = .closed ∧ (twice.part.breaker (.incomer 0)).position = .opn ∧
      (twice.part.breaker (.incomer 0)).uncommanded = 1 ∧ (twice.part.bus .a).feed = .unfed ∧
      (twice.part.channel (.lost .a)).pending = true := by decide +kernel

/-- The board of the worked cases at send time (04): I1, I2 CLOSED, I3, K OPEN, I4 UNKNOWN with its unit LOST. -/
def judging : Part :=
  (board.setBreaker (.incomer 3) { BreakerRecord.init with position := .unknown }).setSource 2
    { board.source 2 with gen := ⟨true, true, 8, false⟩ }

theorem test_closing_interlock :
    let step : Owner := .step 1 .operator .builtIn 1 none
    let sync : Owner := .attempt .operator .builtIn 1
    judging.blockCause .coupler .close step = some .twoSources ∧ judging.blockCause .coupler .close sync = none ∧
      judging.blockCause (.incomer 2) .close step = some .twoSources ∧
      judging.blockCause (.incomer 3) .close sync = some .notRemote ∧
      judging.blockCause (.feeder 1) .close step = none ∧
      (judging.setBreaker (.incomer 0) { judging.breaker (.incomer 0) with position := .opn }).blockCause (.incomer 2)
        .close step = none := by decide +kernel

/-- Bus A in LOCKOUT, as a busbar fault leaves it (04). -/
theorem test_lockout_blocks_closes :
    let p := judging.setBus .a { judging.bus .a with lockout := true }
    let step : Owner := .step 1 .operator .builtIn 1 none
    p.blockCause (.feeder 4) .close step = some .lockout ∧ p.blockCause .coupler .close step = some .twoSources ∧
      p.blockCause (.incomer 2) .opn step = none := by decide +kernel

/-- The groups of the worked capacity case (06): G1–G5 on bus A CLOSED. -/
def fitted : Part :=
  { board with
    groups := mapIndexed
      (fun g (_ : GroupRow) => (([⟨3000, 0, false, false, false⟩, ⟨2500, 5, false, false, false⟩,
        ⟨1800, 2, false, false, false⟩, ⟨1500, 1, false, false, false⟩, ⟨900, 3, false, false, false⟩] : List GroupRow)[g.val]?).getD GroupRow.init) board.groups
    breakers := mapIndexed
      (fun b (r : BreakerRecord) =>
        { r with position := if 5 ≤ b.val ∧ b.val ≤ 9 then .closed else r.position }) board.breakers }

theorem test_capacity_fit :
    fitted.fit .a 10800 = ⟨true, [], 9700⟩ ∧ fitted.fit .a 8100 = ⟨true, [3, 2], 6400⟩ := by decide +kernel

theorem test_sync_evaluation :
    let e := evaluatePair SyncSettings.default ⟨1006000, 80000, 2000⟩
      ⟨1002, 1002, 1002, 300, 49980, true, false, false, 1000000⟩ ⟨1010, 1010, 1010, 0, 50130, true, false, false, 1004000⟩
    e.angles = some (300, 0) ∧ e.slip = some 150 ∧ e.delta = some (-300) ∧ e.travel = some 300 ∧
      e.wait = some 555555 ∧ e.period = some 6666666 ∧ e.tc = some 1479555 ∧ e.result = .notYet := by decide +kernel

theorem test_sync_standing :
    let e := evaluatePair SyncSettings.default ⟨3002000, 80000, 2000⟩
      ⟨1004, 1004, 1004, 1190, 49989, true, false, false, 2990000⟩ ⟨998, 998, 998, 1250, 49991, true, false, false, 3000000⟩
    e.dV = some 6 ∧ e.slip = some 2 ∧ e.delta = some 60 ∧ e.standing = some true ∧ e.result = .ready 3004000 := by
  decide +kernel

/-- The board of the OPERATE that times out (09), with F7 CLOSED and 40 as the next number. -/
theorem test_operate_deadline :
    let p := board.setBreaker (.feeder 6) { board.breaker (.feeder 6) with position := .closed, echo := some (39, .executed) }
    let p := { p with time := { p.time with now := 8000000 }, schedule := { p.schedule with next := 40 } }
    let t := after (.operate host 12 (some .opn)) (on p)
    t.part.schedule.entries.map (fun e => (e.num, e.executeAt, e.sent, e.sendStamp, e.deadline)) =
      [(40, 8010000, true, some 8000000, .running 0 260000)] ∧ (t.part.breaker (.feeder 6)).opCount = 1 := by
  decide +kernel

theorem test_deadline_fails_the_breaker :
    let t := after (.operateDeadlineExpiry 7) (on (scheduled [sentEntry]))
    (t.part.breaker (.incomer 2)).failed = true ∧ t.part.schedule.entries = [] ∧
      (t.part.management.operates.map (·.outcome)) = [.timedOut] := by decide +kernel

theorem test_fault_log_fills :
    let f (k : FaultKind) (b : Option Breaker) : FaultRecord := { blankFault k with breaker := b }
    let log := ([f .unitLost (some .coupler), f .unitLost (some (.feeder 0)), f .noPath none,
      f .unitLost (some (.feeder 1))] : List FaultRecord).foldl FaultLog.record FaultLog.init
    log.first.map (fun r => (r.kind, r.breaker, r.repeats)) = some (.unitLost, some .coupler, 1) ∧
      log.second.map (fun r => (r.kind, r.breaker, r.repeats)) = some (.unitLost, some (.feeder 0), 0) ∧
      log.dropped = 1 ∧ (log.tallies.get (faultIdx .unitLost)).count = 3 ∧
      (log.tallies.get (faultIdx .noPath)).count = 1 := by decide +kernel

theorem test_start_and_halt :
    (after (.start host) (on board)).part.arbiter.mode = .auto ∧ (after (.halt host) (on auto)).part.arbiter.runOut = false :=
  by decide +kernel

theorem test_restart_keeps_the_tables :
    let t := after (.restart host) (on auto)
    t.part.arbiter.mode = .halted ∧ t.part.time.now = 0 ∧ t.part.unitMap = auto.unitMap := by decide +kernel

/-- A requested template whose one step dwells runs, and holds for its confirmation (05). -/
def transferring : Part :=
  { auto with templates := auto.templates.set 14 { Template.init with steps := [.dwell 0] } }

theorem test_transfer_runs_and_is_held :
    let t := after (.transfer host 15) (on transferring)
    (t.part.channel .operator).engaged = .held ∧ (t.part.channel .operator).outcome = some .completed ∧
      (t.part.channel .operator).template = some (.number 14) ∧
      ((after (.confirm host 5) t).part.channel .operator).engaged = .no := by decide +kernel

theorem test_test_is_not_held :
    let t := after (.test host 15) (on transferring)
    (t.part.channel .test).engaged = .no ∧ (t.part.channel .test).outcome = some .completed := by decide +kernel

theorem test_writes :
    (after (.writeBreakerSettings host 21 [⟨200001, 9999, 19, 0⟩]) (on board)).part.brkSet (.feeder 15) =
        ⟨200000, 10000, 20, 0⟩ ∧
      (after (.writeRows host 15 1 [.management 1001]) (on board)).part.management.statusPeriod = 1000 ∧
      (after (.writeCandidateLists host 6 [[1, 24]]) (on board)).part.candidates.get 5 = [0, 23] := by decide +kernel

theorem test_setChannel_off_discards :
    let p := auto.setChannel (.lost .a) { auto.channel (.lost .a) with pending := true, mask := true }
    ((after (.setChannel host 9 false true .selfRelease) (on p)).part.channel (.lost .a)).pending = false := by
  decide +kernel

theorem test_clearLockout :
    let p := board.setBus .a { board.bus .a with lockout := true }
    ((after (.clearLockout host (some .a)) (on p)).part.bus .a).lockout = false := by decide +kernel

theorem test_service_in :
    let p := board.setSource 0 { board.source 0 with state := .out }
    ((after (.sourceServiceIn host 1) (on p)).part.source 0).state = .dead ∧
      ((after (.sourceServiceOut host 4) (on p)).part.source 3).state = .out := by decide +kernel

theorem test_dwell_ends :
    let t := after .dwellExpiry (on (running (.dwell 7) .timer))
    t.part.exec.step = 2 ∧ t.part.exec.timer = .running 0 5000 := by decide +kernel

theorem test_guard_trips :
    let t := after .guardExpiry (on (guarded board))
    t.part.guard.state = .tripping ∧ t.part.schedule.entries.map (fun e => (e.target, e.action, e.executeAt, e.sent)) =
      [(.breaker (.incomer 0), .opn, 0, true)] := by decide +kernel

theorem test_sync_time_limit :
    let t := after .syncTimeLimitExpiry (on synching)
    t.part.attempt.map (·.reason) = some (some .syncTimeout) ∧ t.part.exec.state = .idle := by decide +kernel

theorem test_waits_time_out :
    (after .waithealthyTimeout (on (running (.waitHealthy 2 1) .timer))).part.planOutcome =
        some (.failed .waitTimeout) ∧
      (after .waitdeadTimeout (on (running (.waitDead (.bus .a) 10 true) .timer))).part.exec.step = 2 := by
  decide +kernel

theorem test_stagger_raises_restore :
    let t := after (.staggerExpiry .a) (on (loaded .staggering))
    (t.part.stage .a).restore = .raised ∧ (t.part.channel (.restore .a)).pending = true ∧
      (t.part.stage .a).lastCandidate = some 2 := by decide +kernel

theorem test_step_takes_the_front :
    (match step { on board with pending := [.clearFaults host, .start host] } with
      | .next t => t.pending
      | _ => []) = [.start host] := by decide +kernel

theorem test_ports :
    let up := after (.portUp .one) (on board)
    let down := after (.portDown .one) (on (board.setPort .one busyPort))
    (up.part.port .one).up = true ∧ (down.part.port .one).tallies.discard = 9 ∧ (down.part.port .one).up = false := by
  decide +kernel

theorem test_transmitEnd_prefers_the_command :
    ((after (.transmitEnd .one) (on (board.setPort .one busyPort))).part.port .one).sending =
      some (.command openCoupler) := by decide +kernel

theorem test_announce_binds :
    let t := after (.announce .one ⟨254, 9, .point, 2⟩) (on learning)
    (t.part.row 1).station.val = 254 ∧ (t.part.unit 1).state = .active ∧ (t.part.unit 1).expected = 10 ∧
      (t.part.unit 1).silence = .running 0 300000 := by decide +kernel

theorem test_silence_of_the_master_starts_holdover :
    let t := after (.silenceExpiry 29) (on silent)
    t.part.time.state = .holdover ∧ t.part.time.holdover = .running 0 5000000 ∧
      (t.part.condition .unitLost).set = true := by decide +kernel

theorem test_holdover_expires :
    let p := board.setTime { board.time with state := .holdover, holdover := .running 5000000 5000000 }
    let t := after .holdoverExpiry (on p)
    t.part.time.state = .unsynced ∧ (t.part.condition .timeUnsynced).set = true := by decide +kernel

theorem test_bus_timers :
    ((after (.unplannedParallelExpiry .a) (on expired)).part.bus .a).unplannedMark = true ∧
      ((after (.deadConfirmExpiry .a) (on expired)).part.channel (.lost .a)).pending = true ∧
      ((after (.returnTimerExpiry .a) (on expired)).part.channel (.retn .a)).tally = 1 ∧
      ((after (.pickupExpiry 0) (on expired)).part.source 0).state = .healthy := by decide +kernel

theorem test_entry_comes_due_and_is_sent :
    ((after (.entryDue 7) (on (scheduled [laterEntry 7 11000]))).part.schedule.entries.map (·.sent)) = [true] ∧
      ((after (.entryDue 7) (on (scheduled [laterEntry 7 11001]))).part.schedule.entries.map (·.sent)) = [false] := by
  decide +kernel

theorem test_stage_timers_raise_shed :
    ((after (.frequencyStageExpiry .a) (on (loaded .stopped))).part.channel (.shed .a)).pending = true ∧
      ((after (.capacityStageExpiry .a) (on (loaded .stopped))).part.stage .a).shed = .raised ∧
      ((after (.settleExpiry .a) (on (loaded .settling))).part.stage .a).stagger = .running 0 15000000 := by
  decide +kernel

theorem test_requests_are_counted :
    (after (.identify host) (on board)).part.management.requests = 1 ∧
      (after (.unknownRequest host) (on board)).part.management.refused = 1 ∧
      (after .foreignRequest (on board)).part.management.foreign = 1 ∧
      (after (.readRows host 24 1 1) (on board)).part.management.refused = 0 := by decide +kernel

theorem test_table_writes :
    (after (.writeUnitMap host 1 [⟨9, .timeMaster, true, false, 0, 0⟩]) (on bare)).part.row 0 =
        ⟨9, .timeMaster, true, false, 3000, 4⟩ ∧
      (after (.writeTopology host 7 [.group .b]) (on board)).part.groupBus 0 = .b ∧
      ((after (.writeTemplates host 24 [plainTemplate]) (on board)).part.template 23).steps = [.dwell 0] ∧
      ((after (.writeSourceSettings host 4 [{ SourceSettings.default with dead := 601 }]) (on board)).part.srcSet 3).dead =
        600 := by decide +kernel

theorem test_more_table_writes :
    ((after (.writeBusSettings host 2 [{ BusSettings.default with deadConfirm := 7 }]) (on board)).part.busSet .b) ≠
        BusSettings.default ∧
      (after (.writeGroupTable host 1 [⟨0, 0, true, false⟩]) (on board)).part.readRow 14 1 =
        some (.group 0 0 true false .a .opn .off false) ∧
      ((after (.writeGroupTable host 1 [⟨50001, 0, true, false⟩]) (on board)).part.group 0).demand = 50000 ∧
      ((after (.clearPortTallies host 1 [PortTallies.zero]) (on (board.setPort .one
        { busyPort with tallies := { PortTallies.zero with loop := 3 } }))).part.port .one).tallies.loop = 0 := by
  decide +kernel

/-- A bus row carries the fields of R68 and R175: its timers of the load stage as running or stopped. -/
theorem test_bus_row_fields :
    (loaded .settling).readRow 13 1 =
      some (.bus ((loaded .settling).busSet .a) ⟨.live, .fed 0, false, .stopped, .unfed, .stopped, false⟩
        ⟨.stopped, true, true, .settling, true, true, none, none, .none, none⟩) ∧
      (board.stage .a).fields.settle = false := by
  decide +kernel

theorem test_overlapping_thresholds_and_the_coupler_trip :
    (((after (.reading (.bus .a) (volts 550 901)) (on overlapping)).part.bus .a).live = .live) ∧
      ((after (.stateReport .coupler ⟨.opn, true, true, false, .busbar, 0, .noCommand⟩) (on board)).part.bus
        .b).lockout = true := by decide +kernel

theorem test_ack_sets_a_standing_condition_again :
    let p := (board.setUnit 0 { board.unit 0 with state := .lost }).raiseFlag .unitLost
    let t := after (.ackConditions host [some .unitLost]) (on (p.raiseFlag .serviceDue))
    (t.part.condition .unitLost).set = true ∧ (t.part.condition .unitLost).tally = 2 ∧
      (t.part.condition .serviceDue).set = true ∧ (t.part.condition .serviceDue).tally = 1 := by decide +kernel

theorem test_reset_breaker_and_restore_group :
    ((after (.resetBreaker host 5) (on (board.setBreaker .coupler
        { board.breaker .coupler with failed := true }))).part.breaker .coupler).failed = false ∧
      ((after (.restoreGroup host 3) (on (loaded .stopped))).part.stage .a).requested = some 2 := by decide +kernel

theorem test_clear_faults_and_status :
    (after (.clearFaults host) (on (board.recordFault (blankFault .noPath)))).part.management.faults = FaultLog.init ∧
      ((after .statusTimerExpiry (on ((board.setPort .one { board.port .one with up := true }).setManagement
        { board.management with statusTimer := .running 100000 100000 }))).part.port .one).sending.map (fun f =>
          (f.givenBytes.take 6, f.givenBytes.drop 14 |>.take 2)) = some (broadcast, [9, 1]) := by
  decide +kernel

theorem test_word_spells_no_command : decodeTableWord 0 0 = none ∧ decodeTableWord 64 5 = none := by decide

end Sys2Proof.Tests
end

section
/-! SUPPORT. The base of the part, its tables and its unit records, which every hand-off by which the blocks react to
one another leaves as it is: one lemma for each function that such a hand-off runs. -/

namespace Sys2Proof.Machine

/-- The tables that writes fill: the unit map and every setting (R10, R189). -/
structure Tables where
  unitMap         : Vector UnitMapRow 32
  time            : TimeSettings
  schedule        : ScheduleSettings
  statusPeriod    : Nat
  sourceSettings  : Vector SourceSettings 4
  breakerSettings : Vector BreakerSettings 21
  busSettings     : PerBus BusSettings
  syncSettings    : Vector SyncSettings 4
  templates       : Vector Template 24
  candidates      : Vector (List (Fin 24)) 6
  groups          : Grp → Nat × Nat

/-- The tables as the part holds them. -/
def Part.tables (p : Part) : Tables :=
  { unitMap := p.unitMap
    time := p.time.settings
    schedule := p.schedule.settings
    statusPeriod := p.management.statusPeriod
    sourceSettings := p.sourceSettings
    breakerSettings := p.breakerSettings
    busSettings := p.busSettings
    syncSettings := p.syncSettings
    templates := p.templates
    candidates := p.candidates
    groups := fun g => ((p.group g).demand, (p.group g).rank) }

/-- What the blocks' reactions leave alone: the tables and the unit records. -/
def Part.base (p : Part) : Tables × Vector UnitRecord 32 := (p.tables, p.units)

/-- A hand-off by which blocks react to one another: none of those that change the unit map, a unit record or a setting,
or that hand off one of these. -/
def Task.reacts : Task → Bool
  | .frame .. | .checked .. | .announce .. | .request .. | .silenceExpiry _ | .slewInstant | .restart => false
  | _ => true

/-- Neither the Link Port nor the base changes. -/
@[simp] abbrev Part.Stays (p q : Part) : Prop := q.link = p.link ∧ q.base = p.base

/-- A hand-off changes neither the Link Port nor the base, and hands off only reactions. -/
@[simp] abbrev Keeps (p : Part) (r : Res) : Prop := p.Stays r.1 ∧ r.2.all Task.reacts = true

section

variable (p : Part)

/-- A part with the tables and unit records of `p` in their places has its base, whatever else it holds. -/
@[simp] theorem Part.base_mk {p : Part} {l : LinkState} {t : TimeBase}
    {points sources breakers top buses fed arb channels sel ex cur prev guard att timer sch stages m free}
    (ht : t.settings = p.time.settings) (hs : sch.settings = p.schedule.settings)
    (hm : m.statusPeriod = p.management.statusPeriod) :
    Part.base ⟨l, p.unitMap, p.units, t, points, p.sourceSettings, sources, p.breakerSettings, breakers, top,
      p.busSettings, buses, fed, arb, channels, p.templates, p.candidates, sel, ex, cur, prev, guard, p.syncSettings,
      att, timer, sch, p.groups, stages, m, free⟩ = p.base := by
  simp [Part.base, Part.tables, Part.group, ht, hs, hm]

@[simp] theorem Part.setPoint_base (i v) : (p.setPoint i v).base = p.base := rfl
@[simp] theorem Part.setSource_base (i v) : (p.setSource i v).base = p.base := rfl
@[simp] theorem Part.setBreaker_base (i v) : (p.setBreaker i v).base = p.base := rfl
@[simp] theorem Part.setBus_base (i v) : (p.setBus i v).base = p.base := rfl
@[simp] theorem Part.setChannel_base (i v) : (p.setChannel i v).base = p.base := rfl
@[simp] theorem Part.setStage_base (i v) : (p.setStage i v).base = p.base := rfl
@[simp] theorem Part.setPort_base (i v) : (p.setPort i v).base = p.base := rfl
@[simp] theorem Part.setExec_base (v) : (p.setExec v).base = p.base := rfl
@[simp] theorem Part.setAttempt_base (v) : (p.setAttempt v).base = p.base := rfl
@[simp] theorem Part.setAttempt_link (v) : (p.setAttempt v).link = p.link := rfl

@[simp] theorem Part.setSchedule_base {v : Schedule} (h : v.settings = p.schedule.settings) :
    (p.setSchedule v).base = p.base := by
  simp [Part.setSchedule, h]

@[simp] theorem Part.setManagement_base {v : Management} (h : v.statusPeriod = p.management.statusPeriod) :
    (p.setManagement v).base = p.base := by
  simp [Part.setManagement, h]

@[simp] theorem Part.setGroup_base {g : Grp} {v : GroupRow} (hd : v.demand = (p.group g).demand)
    (hr : v.rank = (p.group g).rank) : (p.setGroup g v).base = p.base := by
  have (h : Grp) : ((p.setGroup g v).group h).demand = (p.group h).demand ∧
      ((p.setGroup g v).group h).rank = (p.group h).rank := by
    rw [Part.group_setGroup]
    split
    · next e => rw [e, hd, hr]; exact ⟨rfl, rfl⟩
    · exact ⟨rfl, rfl⟩
  simp only [Part.base, Part.tables, this]
  rfl

@[simp] theorem Part.raiseFlag_stays (f : Flag) : p.Stays (p.raiseFlag f) := by
  simp only [Part.raiseFlag]
  split <;> simp [Part.setCondition]

@[simp] theorem Part.recordFault_stays (r : FaultRecord) : p.Stays (p.recordFault r) := by simp [Part.recordFault]

@[simp] theorem Part.judgeReturns_stays : p.Stays p.judgeReturns := by simp [Part.judgeReturns, Part.judgeReturn]

@[simp] theorem Part.judgeReturn_stays (x : Bus) : p.Stays (p.judgeReturn x) := by simp [Part.judgeReturn]

@[simp] theorem Part.recomputeFeeding_stays : p.Stays p.recomputeFeeding := by simp [Part.recomputeFeeding]

@[simp] theorem Part.setPosition_stays (b : Breaker) (pos : Position) : p.Stays (p.setPosition b pos) := by
  cases b with
  | feeder g =>
    have hg (v : BreakerRecord) : ((p.setBreaker (.feeder g) v).setGroup g (p.groupAt g pos)).base = p.base :=
      Part.setGroup_base _ rfl rfl
    simp [Part.setPosition, hg]
  | _ => simp [Part.setPosition]

/-! ### Management's and the Load Manager's hand-offs -/

@[simp] theorem unitLost_keeps (role : Role) : Keeps p (unitLost role p) := by simp [unitLost]

@[simp] theorem shedNow_keeps (x : Bus) : Keeps p (shedNow x p) := by simp [shedNow, Task.reacts]

@[simp] theorem shedStage_keeps (x : Bus) : Keeps p (shedStage x p) := by
  unfold shedStage
  dsimp only
  split
  · simp
  · split <;> simp

@[simp] theorem frequencyExpiry_keeps (x : Bus) : Keeps p (frequencyExpiry x p) := by
  unfold frequencyExpiry
  split <;> simp [Task.reacts]

@[simp] theorem capacityExpiry_keeps (x : Bus) : Keeps p (capacityExpiry x p) := by
  unfold capacityExpiry
  split <;> simp [Task.reacts]

@[simp] theorem capacityShort_keeps : Keeps p (capacityShort p) := by
  unfold capacityShort
  split <;> simp

@[simp] theorem restoreStage_keeps (x : Bus) : Keeps p (restoreStage x p) := by
  unfold restoreStage
  dsimp only
  split <;> split <;> simp

@[simp] theorem shedRaised_keeps (x : Bus) : Keeps p (shedRaised x p) := by simp [shedRaised]

@[simp] theorem settleExpiry_keeps (x : Bus) : Keeps p (settleExpiry x p) := by
  unfold settleExpiry
  dsimp only
  split
  · split <;> simp [Task.reacts]
  · simp

@[simp] theorem judgeCandidate_keeps (x : Bus) : Keeps p (judgeCandidate x p) := by
  unfold judgeCandidate restoreBlocked
  dsimp only
  split
  · simp
  · split
    · simp
    · split
      · simp
      · split <;> simp [Task.reacts]

@[simp] theorem staggerExpiry_keeps (x : Bus) : Keeps p (staggerExpiry x p) := by
  unfold staggerExpiry
  dsimp only
  split
  · split <;> simp [Task.reacts]
  · simp

@[simp] theorem restoreOutcome_keeps (c : Channel) : Keeps p (restoreOutcome c p) := by
  have hx (x : Bus) (q : Part) : q.Stays
      (match (q.stage x).restore, (q.stage x).raisedOn with
        | .raised, some y =>
          if c = .restore y then
            q.setStage x
              (if q.restoreHolds x then (q.stage x).startStagger (q.busSet x).stagger else (q.stage x).stopRestore)
          else q
        | _, _ => q) := by
    split
    · split <;> simp
    · simp
  exact ⟨⟨((hx .b _).1).trans (hx .a p).1, ((hx .b _).2).trans (hx .a p).2⟩, rfl⟩

@[simp] theorem load_keeps : Keeps p (load p) := by simp [load, Task.reacts]

@[simp] theorem loadOutcome_keeps (c : Channel) : Keeps p (loadOutcome c p) := by
  cases c <;> simp [loadOutcome, Task.reacts]

@[simp] theorem loadStart_keeps : Keeps p (loadStart p) := by simp [loadStart, Task.reacts]

@[simp] theorem shedMark_keeps (g : Grp) : Keeps p (shedMark g p) := by simp [shedMark, Task.reacts]

/-! ### The Request Arbiter's hand-offs -/

@[simp] theorem Part.engage_stays (c : Channel) (e : Engaged) : p.Stays (p.engage c e) := by simp [Part.engage]

@[simp] theorem recordOutcome_keeps (c : Channel) (o : ChannelOutcome) : Keeps p (recordOutcome c o p) := by
  cases c <;> simp [recordOutcome, Task.reacts]

@[simp] theorem raise_keeps (c : Channel) : Keeps p (raise c p) := by
  unfold raise
  dsimp only
  split <;> simp [Task.reacts]

@[simp] theorem judgeTake_keeps : Keeps p (judgeTake p) := by
  unfold judgeTake
  split
  · simp
  · dsimp only
    split <;> simp [Task.reacts]

@[simp] theorem takeRequested_stays (c : Channel) : p.Stays (takeRequested c p) := by cases c <;> simp [takeRequested]

@[simp] theorem handPlan_keeps (pl : Plan) : Keeps p (handPlan pl p) := by simp [handPlan, Task.reacts]

@[simp] theorem select_keeps (c : Channel) : Keeps p (select c p) := by
  unfold select
  dsimp only
  split
  · simp
  · split <;> simp [Task.reacts]

@[simp] theorem planEnded_keeps (o : PlanOutcome) : Keeps p (planEnded o p) := by
  unfold planEnded
  split <;> simp

@[simp] theorem endEngagement_keeps (c : Channel) : Keeps p (endEngagement c p) := by
  unfold endEngagement
  split <;> simp [Task.reacts]

@[simp] theorem enterHalted_stays : p.Stays (enterHalted p) := by simp [enterHalted]

@[simp] theorem arbiterIdle_keeps : Keeps p (arbiterIdle p) := by
  unfold arbiterIdle
  split
  · simp
  · split
    · dsimp only
      split <;> simp [Task.reacts]
    · split <;> simp [Task.reacts]

@[simp] theorem judgePreempt_keeps : Keeps p (judgePreempt p) := by
  unfold judgePreempt
  split
  · split <;> simp [Task.reacts]
  · simp

@[simp] theorem beginAuto_stays : p.Stays (beginAuto p) := by simp [beginAuto]

@[simp] theorem afterStart_keeps : Keeps p (afterStart p) := by simp [afterStart, Task.reacts]

/-! ### The Breaker and Bus Monitor's hand-offs -/

@[simp] theorem countUncommanded_stays (b : Breaker) : p.Stays (countUncommanded b p) := by
  cases b <;> simp [countUncommanded]

@[simp] theorem feedTasks_react (q : Part) : (feedTasks p q).all Task.reacts = true := by
  unfold feedTasks
  split <;> simp [Task.reacts]

@[simp] theorem reportRaises_react (b : Breaker) (busbar : Bool) (lost : List Bus) :
    (reportRaises b busbar lost p).all Task.reacts = true := by
  unfold reportRaises
  split <;> simp [Task.reacts]

@[simp] theorem takeReport_keeps (b : Breaker) (r : BreakerReport) : Keeps p (takeReport b r p) := by
  unfold takeReport
  dsimp only
  refine ⟨?_, by simp; simp [Task.reacts]⟩
  split <;> split <;> simp

@[simp] theorem breakerGone_keeps (b : Breaker) : Keeps p (breakerGone b p) := by
  unfold breakerGone
  dsimp only
  split <;> simp [Task.reacts]

@[simp] theorem feedTold_keeps : Keeps p (feedTold p) := by simp [feedTold, Task.reacts]

@[simp] theorem liveState_keeps (x : Bus) : Keeps p (liveState x p) := by
  unfold liveState
  dsimp only
  split
  · simp
  · split <;> simp [Task.reacts]

@[simp] theorem deadConfirmExpiry_keeps (x : Bus) : Keeps p (deadConfirmExpiry x p) := by
  unfold deadConfirmExpiry
  dsimp only
  split
  · split <;> simp [Task.reacts]
  · simp

@[simp] theorem monitorIdle_stays : p.Stays (monitorIdle p) := by
  simp only [monitorIdle]
  split <;> split <;> simp

@[simp] theorem busFault_keeps (x : Bus) (b : Breaker) : Keeps p (busFault x b p) := by
  unfold busFault
  split <;> simp [Task.reacts]

@[simp] theorem raiseLost_keeps (x : Bus) : Keeps p (raiseLost x p) := by
  unfold raiseLost
  split <;> simp [Task.reacts]

@[simp] theorem returnExpiry_keeps (x : Bus) : Keeps p (returnExpiry x p) := by
  unfold returnExpiry
  split <;> simp [Task.reacts]

@[simp] theorem startBus_keeps (x : Bus) : Keeps p (startBus x p) := by
  unfold startBus
  dsimp only
  split <;> simp [Task.reacts]

@[simp] theorem unplannedExpiry_keeps (x : Bus) : Keeps p (unplannedExpiry x p) := by
  unfold unplannedExpiry
  dsimp only
  split <;> simp

@[simp] theorem guardStarted_stays : p.Stays (guardStarted p) := by simp [guardStarted]

@[simp] theorem guardEnded_stays : p.Stays (guardEnded p) := by simp [guardEnded]

@[simp] theorem breakerFails_stays (b : Breaker) : p.Stays (breakerFails b p) := by simp [breakerFails]

@[simp] theorem countInterlock_stays (b : Breaker) : p.Stays (countInterlock b p) := by simp [countInterlock]

/-! ### The Command Scheduler's hand-offs -/

@[simp] theorem Part.setEntries_stays (es : List Entry) : p.Stays (p.setEntries es) := by simp [Part.setEntries]

@[simp] theorem Part.putEntry_stays (e : Entry) : p.Stays (p.putEntry e) := by simp [Part.putEntry]

@[simp] theorem Part.dropEntry_stays (num : CmdNum) : p.Stays (p.dropEntry num) := by simp [Part.dropEntry]

@[simp] theorem Part.countSchedule_stays (f : ScheduleTallies → ScheduleTallies) : p.Stays (p.countSchedule f) := by
  simp [Part.countSchedule]

@[simp] theorem Part.refreshDue_stays : p.Stays p.refreshDue := by simp [Part.refreshDue]

@[simp] theorem Part.accept_stays (target : Target) (action : Action) (owner : Owner) (t : Nat) :
    p.Stays (p.accept target action owner t).1 := by
  simp [Part.accept]

theorem Part.insertEntry_stays {p q : Part} {target : Target} {action : Action} {owner : Owner} {timed : Option Nat}
    {num : CmdNum} (h : p.insertEntry target action owner timed = .ok (q, num)) : p.Stays q := by
  unfold Part.insertEntry at h
  split at h
  · cases h
  · split at h
    · cases h
    · cases h
      exact p.accept_stays ..

@[simp] theorem Part.insertGuard_keeps (b : Breaker) (serial : Nat) :
    p.Stays (p.insertGuard b serial).1 ∧ (p.insertGuard b serial).2.2.all Task.reacts = true := by
  simp only [Part.insertGuard]
  split <;> simp [Task.reacts]

theorem Part.retimeEntry_stays {p q : Part} {num : CmdNum} {t : Nat} (h : p.retimeEntry num t = some q) :
    p.Stays q := by
  unfold Part.retimeEntry at h
  split at h
  · split at h
    · cases h
    · cases h
      exact p.setEntries_stays _
  · cases h

@[simp] theorem Part.cancelEntry_stays (num : CmdNum) : p.Stays (p.cancelEntry num) := by
  unfold Part.cancelEntry
  split <;> simp

@[simp] theorem attemptSent_stays (num : CmdNum) : p.Stays (attemptSent num p) := by
  unfold attemptSent
  split
  · split <;> simp
  · simp

@[simp] theorem Part.judgeService_stays (b : Breaker) : p.Stays (p.judgeService b) := by
  unfold Part.judgeService
  split <;> simp

@[simp] theorem countOperation_stays (target : Target) : p.Stays (countOperation target p) := by
  cases target <;> simp [countOperation]

@[simp] theorem entryDue_keeps (num : CmdNum) : Keeps p (entryDue num p) := by
  unfold entryDue
  split
  · split <;> simp [Task.reacts]
  · simp

@[simp] theorem resolve_keeps (e : Entry) (o : EntryOutcome) : Keeps p (resolve e o p) := by simp [resolve, Task.reacts]

@[simp] theorem refuse_keeps (e : Entry) (r : Reason) : Keeps p (refuse e r p) := by simp [refuse]

@[simp] theorem breakerEntries_keeps (b : Breaker) : Keeps p (breakerEntries b p) := by
  simp [breakerEntries, Task.reacts]

@[simp] theorem sourceEntries_keeps (s : Src) : Keeps p (sourceEntries s p) := by simp [sourceEntries, Task.reacts]

@[simp] theorem judgeBreakerEntry_keeps (num : CmdNum) : Keeps p (judgeBreakerEntry num p) := by
  unfold judgeBreakerEntry
  split
  · simp
  · split
    · simp
    · split
      · simp
      · split
        · simp
        · split <;> simp

@[simp] theorem judgeSourceEntry_keeps (num : CmdNum) : Keeps p (judgeSourceEntry num p) := by
  unfold judgeSourceEntry
  split
  · simp
  · split
    · simp
    · dsimp only
      split
      · simp
      · split
        · split
          · simp
          · split <;> simp
        · split <;> simp

@[simp] theorem deadlineExpiry_keeps (num : CmdNum) : Keeps p (deadlineExpiry num p) := by
  unfold deadlineExpiry
  split
  · simp
  · split
    · split
      · dsimp only
        split
        · simp [Task.reacts]
        · split <;> simp [Task.reacts]
      · simp
    · simp

/-! ### The Synchronising Unit's hand-offs -/

@[simp] theorem finishAttempt_stays (a : AttemptRecord) (st : AttemptState) (r : Option Reason) :
    p.Stays (finishAttempt a st r p) := by
  simp [finishAttempt]

@[simp] theorem endAttempt_keeps (a : AttemptRecord) (st : AttemptState) (r : Option Reason) :
    Keeps p (endAttempt a st r p) := by
  simp [endAttempt, Task.reacts]

@[simp] theorem cancelAttemptEntry_stays (a : AttemptRecord) : p.Stays (cancelAttemptEntry a p).1 := by
  unfold cancelAttemptEntry
  split <;> simp

@[simp] theorem breakOff_keeps (a : AttemptRecord) (st : AttemptState) (r : Option Reason) :
    Keeps p (breakOff a st r p) := by
  simp [breakOff]

@[simp] theorem arm_keeps (a : AttemptRecord) (tc : Nat) : Keeps p (arm a tc p) := by
  unfold arm
  split
  · next h => simpa [Task.reacts] using Part.insertEntry_stays h
  · simp

@[simp] theorem retime_keeps (a : AttemptRecord) (tc : Nat) : Keeps p (retime a tc p) := by
  unfold retime
  split
  · simp
  · split
    · simp
    · split
      · next h => simpa [Task.reacts] using Part.retimeEntry_stays h
      · simp

@[simp] theorem disarm_stays (a : AttemptRecord) : p.Stays (disarm a p) := by simp [disarm]

@[simp] theorem evaluateAttempt_keeps (a : AttemptRecord) : Keeps p (evaluateAttempt a p) := by
  unfold evaluateAttempt
  dsimp only
  split
  · simp
  · split <;> simp

@[simp] theorem evaluate_keeps (pt : Point) : Keeps p (evaluate pt p) := by
  unfold evaluate
  split
  · split <;> simp
  · simp

@[simp] theorem startAttempt_keeps (b : Breaker) (r i : Point) (set : Fin 4) (c : Channel) (t : TemplateRef) (n : Nat) :
    Keeps p (startAttempt b r i set c t n p) := by
  simp [startAttempt]

@[simp] theorem attemptEntry_keeps (num : CmdNum) (o : EntryOutcome) : Keeps p (attemptEntry num o p) := by
  unfold attemptEntry
  split
  · split
    · split <;> simp
    · simp
  · simp

@[simp] theorem syncLimitExpiry_keeps : Keeps p (syncLimitExpiry p) := by
  unfold syncLimitExpiry
  split
  · dsimp only
    split
    · split <;> simp
    · simp
  · simp

@[simp] theorem timeQualityPoor_keeps : Keeps p (timeQualityPoor p) := by
  unfold timeQualityPoor
  split
  · split <;> simp
  · simp

@[simp] theorem abandonAttempt_stays : p.Stays (abandonAttempt p) := by
  unfold abandonAttempt
  split
  · split <;> simp
  · simp

/-! ### The Plan Executor's hand-offs -/

@[simp] theorem Part.updateRecord_stays (serial : Nat) (f : PlanRecord → PlanRecord) :
    p.Stays (p.updateRecord serial f) := by
  simp [Part.updateRecord]

@[simp] theorem Part.updateStep_stays (f : StepRecord → StepRecord) : p.Stays (p.updateStep f) := by
  simp [Part.updateStep]

@[simp] theorem endStep_stays (o : StepOutcome) : p.Stays (endStep o p) := by simp [endStep]

@[simp] theorem passStep_keeps (o : StepOutcome) : Keeps p (passStep o p) := by simp [passStep, Task.reacts]

theorem cancelEntries_stays (l : List CmdNum) : p.Stays (l.foldl (fun q n => q.cancelEntry n) p) := by
  induction l generalizing p with
  | nil => simp
  | cons n l ih => simpa using ih (p.cancelEntry n)

@[simp] theorem cancelQueued_stays : p.Stays (cancelQueued p) := by
  simpa [cancelQueued] using cancelEntries_stays p (p.exec.outstanding.filter p.isQueued)

@[simp] theorem decideEnd_stays (o : PlanOutcome) : p.Stays (decideEnd o p) := by simp [decideEnd]

@[simp] theorem stepFault_react (r : Reason) : (stepFault r p).all Task.reacts = true := by
  unfold stepFault
  split <;> simp [Task.reacts]

@[simp] theorem failNow_keeps (r : Reason) : Keeps p (failNow r p) := by simp [failNow, Task.reacts]

@[simp] theorem failStep_keeps (serial step : Nat) (r : Reason) : Keeps p (failStep serial step r p) := by
  unfold failStep
  split <;> simp

@[simp] theorem judgeGuard_stays (b : Breaker) (r i : Point) (set : Fin 4) : p.Stays (judgeGuard b r i set p) := by
  unfold judgeGuard
  dsimp only
  split <;> simp

@[simp] theorem endGuard_stays (mark : GuardMark) : p.Stays (endGuard mark p) := by simp [endGuard]

@[simp] theorem guardFeed_keeps : Keeps p (guardFeed p) := by
  unfold guardFeed
  dsimp only
  split <;> simp [Task.reacts]

@[simp] theorem placeEntryFor_keeps (target : Target) (action : Action) (group : Option Grp) :
    Keeps p (placeEntryFor target action group p) := by
  unfold placeEntryFor
  dsimp only
  split
  · simp
  · split
    · simp [Task.reacts]
    · next h => simpa [Task.reacts] using Part.insertEntry_stays h

@[simp] theorem waitTimer_keeps (n : Nat) : Keeps p (waitTimer n p) := by simp [waitTimer]

@[simp] theorem beginShedFit_keeps (s : Src) (buses : BusSet) : Keeps p (beginShedFit s buses p) := by
  unfold beginShedFit
  dsimp only
  repeat' split
  all_goals simp [Task.reacts]

@[simp] theorem beginSync_keeps (b : Breaker) (r i : Point) (set : Fin 4) : Keeps p (beginSync b r i set p) := by
  unfold beginSync
  repeat' split
  all_goals simp

@[simp] theorem beginKind_keeps (s : Step) : Keeps p (beginKind s p) := by
  cases s <;> simp only [beginKind, beginOpen, beginClose, beginRun, beginStop]
  all_goals repeat' split
  all_goals simp

@[simp] theorem shedNext_keeps (serial step : Nat) (gs : List Grp) : Keeps p (shedNext serial step gs p) := by
  unfold shedNext
  split
  · simp
  · next g rest =>
    have h := placeEntryFor_keeps p (.breaker (.feeder g)) .opn (some g)
    split
    · exact ⟨h.1, by simp only [List.all_append, h.2]; rfl⟩
    · simp

@[simp] theorem beginStep_keeps (serial step : Nat) : Keeps p (beginStep serial step p) := by
  unfold beginStep
  repeat' split
  all_goals simp

@[simp] theorem nextStep_keeps (serial step : Nat) : Keeps p (nextStep serial step p) := by
  unfold nextStep
  dsimp only
  repeat' split
  all_goals simp [Task.reacts]

@[simp] theorem windDown_keeps : Keeps p (windDown p) := by
  unfold windDown
  split <;> simp [Task.reacts]

@[simp] theorem decideAborted_keeps : Keeps p (decideAborted p) := by simp [decideAborted, Task.reacts]

@[simp] theorem abandonStep_keeps : Keeps p (abandonStep p) := by
  unfold abandonStep
  split <;> simp

@[simp] theorem abort_keeps (cause : AbortCause) : Keeps p (abort cause p) := by
  unfold abort
  dsimp only
  repeat' split
  all_goals simp

@[simp] theorem settleAborted_keeps : Keeps p (settleAborted p) := by
  unfold settleAborted
  dsimp only
  repeat' split
  all_goals simp [Task.reacts]

@[simp] theorem shedTold_react (g : Option Grp) (o : EntryOutcome) : (shedTold g o).all Task.reacts = true := by
  unfold shedTold
  split <;> simp [Task.reacts]

@[simp] theorem endParallel_stays (s : Step) : p.Stays (endParallel s p) := by
  unfold endParallel
  repeat' split
  all_goals simp

theorem entryConfirmed_keeps (s : Step) {told : List Task} (h : told.all Task.reacts = true) :
    Keeps p (entryConfirmed s told p) := by
  unfold entryConfirmed
  dsimp only
  split
  all_goals split
  all_goals simp_all

theorem entryAborting_keeps (s : Step) (r : Option Reason) {told : List Task} (h : told.all Task.reacts = true) :
    Keeps p (entryAborting s r told p) := by
  unfold entryAborting
  dsimp only
  split
  all_goals simp_all

@[simp] theorem stepEntry_keeps (num : CmdNum) (owner : Owner) (o : EntryOutcome) :
    Keeps p (stepEntry num owner o p) := by
  unfold stepEntry
  dsimp only
  repeat' split
  all_goals simp [entryConfirmed_keeps, entryAborting_keeps]

@[simp] theorem waitDeadCheck_keeps (pt : Point) : Keeps p (waitDeadCheck pt p) := by
  unfold waitDeadCheck
  repeat' split
  all_goals simp

@[simp] theorem healthCheck_keeps (s : Src) : Keeps p (healthCheck s p) := by
  unfold healthCheck
  repeat' split
  all_goals simp

@[simp] theorem runCheck_keeps (s : Src) : Keeps p (runCheck s p) := by
  unfold runCheck
  repeat' split
  all_goals simp

@[simp] theorem waitdeadTimeout_keeps : Keeps p (waitdeadTimeout p) := by
  unfold waitdeadTimeout
  repeat' split
  all_goals simp

@[simp] theorem dwellExpiry_keeps : Keeps p (dwellExpiry p) := by
  unfold dwellExpiry
  repeat' split
  all_goals simp

@[simp] theorem waithealthyTimeout_keeps : Keeps p (waithealthyTimeout p) := by
  unfold waithealthyTimeout
  repeat' split
  all_goals simp

@[simp] theorem attemptDone_keeps : Keeps p (attemptDone p) := by
  unfold attemptDone
  dsimp only
  repeat' split
  all_goals simp [Task.reacts]

@[simp] theorem guardExpiry_keeps : Keeps p (guardExpiry p) := by
  unfold guardExpiry
  split <;> simp [Task.reacts]

@[simp] theorem guardTripped_keeps : Keeps p (guardTripped p) := by simp [guardTripped]

@[simp] theorem guardFailPlan_keeps : Keeps p (guardFailPlan p) := by
  unfold guardFailPlan
  dsimp only
  repeat' split
  all_goals simp [Task.reacts]

@[simp] theorem guardEntry_keeps (num : CmdNum) (serial : Nat) (o : EntryOutcome) :
    Keeps p (guardEntry num serial o p) := by
  unfold guardEntry
  dsimp only
  split <;> simp [Task.reacts]

@[simp] theorem reportEntry_keeps (e : Entry) (o : EntryOutcome) : Keeps p (reportEntry e o p) := by
  unfold reportEntry
  split <;> simp [Task.reacts, operateEntry]

/-! ### The Source Supervisor's hand-offs -/

@[simp] theorem takeReading_keeps (pt : Point) (b : RawReading) : Keeps p (takeReading pt b p) := by
  unfold takeReading
  dsimp only
  repeat' split
  all_goals cases pt <;> simp [Task.reacts, validTasks]

@[simp] theorem sourceReading_keeps (s : Src) (r : Reading) : Keeps p (sourceReading s r p) := by
  unfold sourceReading
  dsimp only
  repeat' split
  all_goals simp [Task.reacts]

@[simp] theorem pointBlind_keeps (pt : Point) : Keeps p (pointBlind pt p) := by
  unfold pointBlind
  dsimp only
  repeat' split
  all_goals simp [Task.reacts]

@[simp] theorem pickupExpiry_keeps (s : Src) : Keeps p (pickupExpiry s p) := by
  unfold pickupExpiry
  dsimp only
  repeat' split
  all_goals simp [Task.reacts]

@[simp] theorem sourceChanged_keeps (s : Src) : Keeps p (sourceChanged s p) := by
  unfold sourceChanged
  dsimp only
  split <;> simp [Task.reacts]

@[simp] theorem takeGenstat_keeps (s : Src) (b : GenReport) : Keeps p (takeGenstat s b p) := by
  unfold takeGenstat
  split <;> simp [Task.reacts]

@[simp] theorem genGone_keeps (s : Src) : Keeps p (genGone s p) := by simp [genGone, Task.reacts]

@[simp] theorem genChanged_keeps (s : Src) (replaced loadChanged : Bool) :
    Keeps p (genChanged s replaced loadChanged p) := by
  cases replaced <;> cases loadChanged <;> simp [genChanged, Task.reacts]

/-! ### The Time Base's hand-offs -/

@[simp] theorem Part.slew_stays (e : Int) : p.Stays (p.slew e) := by simp [Part.slew]

@[simp] theorem stepTime_keeps (target : Nat) : Keeps p (stepTime target p) := by simp [stepTime, Task.reacts]

@[simp] theorem timeLocked_keeps (target : Nat) (e : Int) : Keeps p (timeLocked target e p) := by
  unfold timeLocked
  dsimp only
  repeat' split
  all_goals simp

@[simp] theorem timeFrame_keeps (master : Nat) : Keeps p (timeFrame master p) := by
  unfold timeFrame
  dsimp only
  repeat' split
  all_goals simp

@[simp] theorem masterGone_keeps : Keeps p (masterGone p) := by
  unfold masterGone
  dsimp only
  split <;> simp

@[simp] theorem holdoverExpiry_keeps : Keeps p (holdoverExpiry p) := by
  unfold holdoverExpiry
  dsimp only
  repeat' split
  all_goals simp [Task.reacts]

/-! ### The Link Port's hand-offs -/

@[simp] theorem Part.tally_base (k : Port) (f : PortTallies → PortTallies) : (p.tally k f).base = p.base := rfl

@[simp] theorem Part.nextSeq_base : p.nextSeq.base = p.base := rfl

@[simp] theorem placeResponse_base (f : ResponseFrame) (k : Port) : (placeResponse f k p).base = p.base := by
  simp only [placeResponse]
  repeat' split
  all_goals simp

@[simp] theorem placeStatus_base (f : StatusFrame) (k : Port) : (placeStatus f k p).base = p.base := by
  simp only [placeStatus]
  split <;> simp

@[simp] theorem placeCommand_base (f : CommandFrame) (k : Port) : (placeCommand f k p).base = p.base := by
  simp only [placeCommand]
  split <;> simp

@[simp] theorem acceptCommand_base (f : CommandFrame) : (acceptCommand f p).base = p.base := by
  simp only [acceptCommand]
  split <;> simp

@[simp] theorem offerCopy_base (f : CommandFrame) (k : Port) : (offerCopy f k p).base = p.base := by
  simp only [offerCopy]
  split <;> simp

@[simp] theorem offerHeld_base (c : HeldCopy) : (offerHeld c p).base = p.base := by
  simp only [offerHeld]
  split <;> split <;> simp

@[simp] theorem takeBack_base : (takeBack p).base = p.base := by simp [takeBack]

/-- A hand-off leaves the base, and hands off only reactions. -/
@[simp] abbrev KeepsBase (p : Part) (r : Res) : Prop := r.1.base = p.base ∧ r.2.all Task.reacts = true

@[simp] theorem offerForward_keepsBase (k : Port) (bytes : List Byte) : KeepsBase p (offerForward k bytes p) := by
  simp only [offerForward]
  repeat' split
  all_goals simp [Task.reacts]

@[simp] theorem egress_keepsBase (k : Port) : KeepsBase p (egress k p) := by
  simp only [egress]
  repeat' split
  all_goals simp [Task.reacts]

@[simp] theorem sendEntry_keepsBase (e : Entry) : KeepsBase p (sendEntry e p) := by
  simp only [sendEntry]
  split <;> simp [Task.reacts, bothEgress]

@[simp] theorem judgeHead_keepsBase (e : Entry) : KeepsBase p (judgeHead e p) := by
  simp only [judgeHead]
  split
  · simp [Task.reacts]
  · split
    · exact sendEntry_keepsBase ..
    · split
      · simp [Task.reacts]
      · exact sendEntry_keepsBase ..

@[simp] theorem handOver_keepsBase : KeepsBase p (handOver p) := by
  simp only [handOver]
  split
  · simp
  · split
    · simp
    · split
      · simp [Task.reacts, bothEgress]
      · simp
      · simp

@[simp] theorem respond_keepsBase (m : Sender) (a : Answer) (rows : List RowData) :
    KeepsBase p (respond m a rows p) := by
  simp only [respond]
  split <;> simp [Task.reacts, bothEgress]

@[simp] theorem portUp_keepsBase (k : Port) : KeepsBase p (portUp k p) := by
  simp only [portUp]
  split <;> simp [Task.reacts]

@[simp] theorem portDown_keepsBase (k : Port) : KeepsBase p (portDown k p) := by
  simp only [portDown]
  split <;> simp [Task.reacts]

@[simp] theorem transmitEnd_keepsBase (k : Port) : KeepsBase p (transmitEnd k p) := by
  simp only [transmitEnd]
  split <;> simp [Task.reacts]

@[simp] theorem statusExpiry_keepsBase : KeepsBase p (statusExpiry p) := by
  simp only [statusExpiry]
  split <;> simp [Task.reacts, bothEgress]

@[simp] theorem respondOperate_keeps (m : Sender) (num : CmdNum) : Keeps p (respondOperate m num p) := by
  simp [respondOperate, Task.reacts]

@[simp] theorem takeForeign_keeps : Keeps p (takeForeign p) := by simp [takeForeign]

@[simp] theorem unitGone_keeps (role : Role) : Keeps p (unitGone role p) := by
  unfold unitGone
  split <;> simp [Task.reacts, breakerGone_keeps, genGone_keeps, masterGone_keeps]

end

/-- A hand-off that changes the Link Port, beside those that are no reactions. -/
def Task.usesLink : Task → Bool
  | .portUp _ | .portDown _ | .transmitEnd _ | .statusExpiry | .egress _ | .handOver | .respond .. => true
  | _ => false

/-- A reaction that does not use the Link Port changes neither it nor the base. -/
theorem runTask_keeps {t : Task} (ht : t.reacts = true) (hl : t.usesLink = false) (p : Part) :
    Keeps p (runTask t p) := by
  cases t <;> simp [Task.reacts, Task.usesLink] at ht hl <;> simp [runTask]

/-- A reaction leaves the base as it is. -/
theorem runTask_keepsBase {t : Task} (ht : t.reacts = true) (p : Part) : KeepsBase p (runTask t p) := by
  by_cases hl : t.usesLink = false
  · have h := runTask_keeps ht hl p
    exact ⟨h.1.2, h.2⟩
  · cases t <;> simp [Task.usesLink] at hl <;> simp [runTask]

end Sys2Proof.Machine
end

section
/-! SUPPORT. What the other hand-offs, the requests and the writes do to the tables, and what an applied write lays over
its table (R189). -/

namespace Sys2Proof.Machine

/-! ### The hand-offs that are no reactions -/

/-- Reactions, and all that they hand off, leave the tables and the unit records as they are. -/
theorem drain_base {ts : List Task} (h : ts.all Task.reacts = true) (n : Nat) (p : Part) :
    (drain n ts p).1.base = p.base :=
  drain_keeps_of_closed (fun t => t.reacts = true) (fun q => q.base = p.base)
    (fun _ q ht u hu => List.all_eq_true.mp (runTask_keepsBase ht q).2 u hu)
    (fun _ q ht hq => (runTask_keepsBase ht q).1.trans hq) n ts p (List.all_eq_true.mp h) rfl

theorem Part.tables_of_base {p q : Part} (h : q.base = p.base) : q.tables = p.tables := congrArg Prod.fst h

theorem Part.units_of_base {p q : Part} (h : q.base = p.base) : q.units = p.units := congrArg Prod.snd h

theorem Part.unitMap_of_tables {p q : Part} (h : q.tables = p.tables) : q.unitMap = p.unitMap :=
  congrArg Tables.unitMap h

section

variable (p : Part)

@[simp] theorem Part.setUnit_tables (r : Fin 32) (u : UnitRecord) : (p.setUnit r u).tables = p.tables := rfl

@[simp] theorem Part.tally_tables (k : Port) (f : PortTallies → PortTallies) : (p.tally k f).tables = p.tables := rfl

@[simp] theorem Part.raiseFlag_tables (f : Flag) : (p.raiseFlag f).tables = p.tables :=
  Part.tables_of_base (p.raiseFlag_stays f).2

@[simp] theorem takeIn_base (k : Port) (bytes : List Byte) : (takeIn k bytes p).1.base = p.base := by
  simp only [takeIn]
  split <;> simp

theorem receive_base (k : Port) (ok : Bool) (bytes : List Byte) : (receive k ok bytes p).1.base = p.base := by
  simp only [receive]
  repeat' split
  all_goals simp

@[simp] theorem supervise_tables (r : Fin 32) (seq : SeqNum) : (supervise r seq p).1.tables = p.tables := rfl

theorem mapFrame_tables (k : Port) (h : Header) (b : Body) : (mapFrame k h b p).1.tables = p.tables := by
  unfold mapFrame
  dsimp only
  repeat' split
  all_goals simp

theorem silenceExpiry_tables (r : Fin 32) : (silenceExpiry r p).1.tables = p.tables := by
  simp only [silenceExpiry]
  repeat' split
  all_goals simp

@[simp] theorem Part.count_tables : p.count.tables = p.tables := rfl

theorem Part.tick_tables : p.tick.tables = p.tables := by
  simp only [Part.tick]
  split <;> split <;> rfl

theorem slewInstant_tables : (slewInstant p).1.tables = p.tables := by
  simp only [slewInstant]
  repeat' split
  all_goals rfl

@[simp] theorem Part.setIfStanding_stays (f : Flag) : p.Stays (p.setIfStanding f) := by
  unfold Part.setIfStanding
  split <;> simp

theorem setStandings_stays (fs : List Flag) : p.Stays (fs.foldl (fun q f => q.setIfStanding f) p) := by
  induction fs generalizing p with
  | nil => simp
  | cons f fs ih => simpa using ih (p.setIfStanding f)

theorem Part.restarted_tables : p.restarted.tables = p.tables := by
  have h (g : Grp) : (p.restarted.group g).demand = (p.group g).demand ∧
      (p.restarted.group g).rank = (p.group g).rank := by
    simp [Part.restarted, Part.group, restartGroup]
  simp only [Part.tables, h]
  rfl

theorem restart_tables : (restart p).1.tables = p.tables := by
  have h := (setStandings_stays p.restarted allFlags).2
  rw [restart, Part.tables_of_base h, p.restarted_tables]

/-- What the claim of an ANNOUNCE can do (R12). -/
theorem claimRow_cases (k : Port) (r : Fin 32) (n : Fin 255) :
    (claimRow k r n p).1 = p ∨ (claimRow k r n p).1 = p.raiseFlag .duplicateRole ∨
      (claimRow k r n p).1 = p.tally k countUnmapped ∨
      ((claimRow k r n p).1 = p.bind r n ∧ p.rowOfStation n.val = none) ∨
      ∃ r2, (claimRow k r n p).1 = (p.bind r2 0).bind r n ∧ p.rowOfStation n.val = some r2 := by
  unfold claimRow
  dsimp only
  split
  · simp
  · split
    · simp
    · split
      · simp
      · split
        · next h => split <;> simp [h]
        · next h => split <;> [skip; split] <;> simp [h]

/-- A law that the claim, the tally and supervision keep is kept by an ANNOUNCE (R12). -/
theorem announce_keeps (P : Part → Prop) {k : Port} {f : AnnounceFrame} (htally : P (p.tally k countUnmapped))
    (hclaim : ∀ r n, P (claimRow k r n p).1) (hsup : ∀ q r u, P q → P (q.setUnit r u)) : P (announce k f p).1 := by
  simp only [announce]
  split
  · split
    · dsimp only
      split
      · exact htally
      · exact hclaim ..
    · refine hsup _ _ _ ?_
      split
      · exact htally
      · exact hclaim ..
  · exact htally

/-! ### Requests that write no table -/

@[simp] theorem refused_stays (m : Sender) (r : RefusedReason) : p.Stays (refused m r p).1 := by simp [refused]

@[simp] theorem answered_fst (m : Sender) (rows : List RowData) (r : Res) : (answered m rows r).1 = r.1 := rfl

@[simp] theorem readRows_stays (m : Sender) (table first count : Nat) : p.Stays (readRows m table first count p).1 := by
  unfold readRows
  split <;> simp

@[simp] theorem requestStart_stays (m : Sender) : p.Stays (requestStart m p).1 := by
  unfold requestStart
  repeat' split
  all_goals simp

@[simp] theorem requestHalt_stays (m : Sender) : p.Stays (requestHalt m p).1 := by
  unfold requestHalt
  dsimp only
  repeat' split
  all_goals simp

@[simp] theorem requestTemplate_stays (c : Channel) (m : Sender) (n : Nat) : p.Stays (requestTemplate c m n p).1 := by
  unfold requestTemplate
  repeat' split
  all_goals simp

@[simp] theorem requestConfirm_stays (m : Sender) (n : Nat) : p.Stays (requestConfirm m n p).1 := by
  unfold requestConfirm
  repeat' split
  all_goals simp

@[simp] theorem requestSetChannel_stays (m : Sender) (n : Nat) (enable mask : Bool) (mode : CompletionMode) :
    p.Stays (requestSetChannel m n enable mask mode p).1 := by
  unfold requestSetChannel
  split <;> simp

theorem raiseFlags_stays (fs : List Flag) : p.Stays (fs.foldl (fun q f => q.raiseFlag f) p) := by
  induction fs generalizing p with
  | nil => simp
  | cons f fs ih => simpa using ih (p.raiseFlag f)

theorem clearFlags_stays (fs : List Flag) : p.Stays (fs.foldl (fun q f => q.clearFlag f) p) := by
  induction fs generalizing p with
  | nil => simp
  | cons f fs ih => simpa [Part.clearFlag, Part.setCondition] using ih (p.clearFlag f)

@[simp] theorem requestAck_stays (m : Sender) (flags : List (Option Flag)) : p.Stays (requestAck m flags p).1 := by
  unfold requestAck
  split
  · simp
  · simp [raiseFlags_stays, clearFlags_stays]

@[simp] theorem requestClearFaults_stays (m : Sender) : p.Stays (requestClearFaults m p).1 := by
  simp [requestClearFaults]

@[simp] theorem requestOperate_stays (m : Sender) (n : Nat) (a : Option Action) :
    p.Stays (requestOperate m n a p).1 := by
  unfold requestOperate
  split
  · simp
  · split
    · simp
    · simp
    · split
      · next h => exact Part.insertEntry_stays h
      · simp

@[simp] theorem requestServiceOut_stays (m : Sender) (n : Nat) : p.Stays (requestServiceOut m n p).1 := by
  unfold requestServiceOut
  repeat' split
  all_goals simp

@[simp] theorem requestServiceIn_stays (m : Sender) (n : Nat) : p.Stays (requestServiceIn m n p).1 := by
  unfold requestServiceIn
  repeat' split
  all_goals simp

@[simp] theorem requestClearLockout_stays (m : Sender) (x : Option Bus) : p.Stays (requestClearLockout m x p).1 := by
  unfold requestClearLockout
  repeat' split
  all_goals simp

@[simp] theorem requestResetBreaker_stays (m : Sender) (n : Nat) : p.Stays (requestResetBreaker m n p).1 := by
  unfold requestResetBreaker
  repeat' split
  all_goals simp

@[simp] theorem requestRestoreGroup_stays (m : Sender) (n : Nat) : p.Stays (requestRestoreGroup m n p).1 := by
  unfold requestRestoreGroup
  dsimp only
  repeat' split
  all_goals simp

@[simp] theorem requestIdentify_stays (m : Sender) : p.Stays (requestIdentify m p).1 := by simp [requestIdentify]

@[simp] theorem requestRestart_stays (m : Sender) : p.Stays (requestRestart m p).1 := by
  unfold requestRestart
  split <;> simp

/-- A request that writes a table (R189). -/
def isWrite : Request → Bool
  | .writeRows .. | .writeUnitMap .. | .writeTopology .. | .writeTemplates .. | .writeCandidateLists .. => true
  | .writeSourceSettings .. | .writeBreakerSettings .. | .writeBusSettings .. | .writeGroupTable .. => true
  | .clearPortTallies .. => true
  | _ => false

theorem carryOut_stays (m : Sender) {r : Request} (h : isWrite r = false) : p.Stays (carryOut m r p).1 := by
  cases r <;> simp [isWrite] at h <;> simp [carryOut]

end

/-! ### Writes -/

/-- A write leaves the part as it was or is applied to rows that passed their tests (R189). -/
theorem writeWith_keeps {α : Type} (P : Part → Prop) {m : Sender} {table first count : Nat} {p : Part}
    {rows : Judged (List α)} {whole : List α → Option RefusedReason} {apply : List α → Res} (hp : P p)
    (h : ∀ ks refs, rows = .ok (ks, refs) → whole ks = none → P (apply ks).1) :
    P (writeWith m table first count p rows whole apply).1 := by
  unfold writeWith
  split
  · exact hp
  · exact hp
  · split
    · exact hp
    · next hw => exact h _ _ rfl hw

/-- Every row of a write that passes its tests has what its own test gives (R189). -/
theorem judgeRows_all {α β : Type} {judge : Nat → α → Judged β} {Q : β → Prop}
    (h : ∀ row x y refs, judge row x = .ok (y, refs) → Q y) {row : Nat} {xs : List α} {ys : List β}
    {refs : List FieldRef} (hj : judgeRows judge row xs = .ok (ys, refs)) : ∀ y ∈ ys, Q y := by
  induction xs generalizing row ys refs with
  | nil =>
    cases hj
    simp
  | cons x xs ih =>
    simp only [judgeRows] at hj
    split at hj
    · cases hj
    · next hx =>
      split at hj
      · cases hj
      · next hr =>
        cases hj
        simpa using ⟨h _ _ _ _ hx, fun y hy => ih hr y hy⟩

/-- What an item of a table has, and every row laid over it gives, the item has then. -/
theorem overlay_at {α β : Type} {n : Nat} {f : α → β → α} {Q : α → Prop} {l : List β} {i : Nat} {v : Vector α n}
    {j : Fin n} (hv : Q (v.get j)) (hl : ∀ a, ∀ b ∈ l, Q a → Q (f a b)) : Q ((overlay f l i v).get j) := by
  induction l generalizing i v with
  | nil => exact hv
  | cons b l ih =>
    refine ih ?_ (fun a c hc => hl a c (List.mem_cons_of_mem _ hc))
    split
    · next h =>
      rw [show v.set i (f v[i] b) h = v.set (⟨i, h⟩ : Fin n) (f v[i] b) from rfl, get_set]
      split
      · next e =>
        subst e
        exact hl _ _ (List.mem_cons_self ..) hv
      · exact hv
    · exact hv

/-- A law of every item of a table and of every row laid over it is one of every item then. -/
theorem overlay_rows {α : Type} {n : Nat} {Q : α → Prop} {l : List α} {i : Nat} {v : Vector α n}
    (hv : ∀ j, Q (v.get j)) (hl : ∀ b ∈ l, Q b) (j : Fin n) : Q ((overlay (fun _ r => r) l i v).get j) :=
  overlay_at (hv j) fun _ b hb _ => hl b hb

end Sys2Proof.Machine
end

section
/-! SUPPORT. What reading each record gives at POWER-ON. -/

namespace Sys2Proof.Machine

theorem get_replicate {α : Type} {n : Nat} (x : α) (i : Fin n) : (Vector.replicate n x).get i = x := by
  simp [Vector.get_eq_getElem]

section

variable (straps : BitVec 8)

@[simp] theorem powerOn_row (r : Fin 32) : (Part.powerOn straps).row r = UnitMapRow.init := get_replicate ..

@[simp] theorem powerOn_unit (r : Fin 32) : (Part.powerOn straps).unit r = UnitRecord.init := get_replicate ..

@[simp] theorem powerOn_point (pt : Point) : (Part.powerOn straps).point pt = PointRecord.init := get_replicate ..

@[simp] theorem powerOn_srcSet (i : Src) : (Part.powerOn straps).srcSet i = SourceSettings.default := get_replicate ..

@[simp] theorem powerOn_source (i : Src) : (Part.powerOn straps).source i = SourceRecord.init := get_replicate ..

@[simp] theorem powerOn_brkSet (b : Breaker) : (Part.powerOn straps).brkSet b = BreakerSettings.default :=
  get_replicate ..

@[simp] theorem powerOn_breaker (b : Breaker) : (Part.powerOn straps).breaker b = BreakerRecord.init :=
  get_replicate ..

@[simp] theorem powerOn_busSet (x : Bus) : (Part.powerOn straps).busSet x = BusSettings.default := by cases x <;> rfl

@[simp] theorem powerOn_bus (x : Bus) : (Part.powerOn straps).bus x = BusRecord.init := by cases x <;> rfl

@[simp] theorem powerOn_stage (x : Bus) : (Part.powerOn straps).stage x = LoadStage.init := by cases x <;> rfl

@[simp] theorem powerOn_port (k : Port) : (Part.powerOn straps).port k = PortState.init := by cases k <;> rfl

@[simp] theorem powerOn_fedDomain (i : Src) : (Part.powerOn straps).fedDomain i = ⟨false, false⟩ := get_replicate ..

@[simp] theorem powerOn_template (n : Fin 24) : (Part.powerOn straps).template n = Template.init := get_replicate ..

@[simp] theorem powerOn_candidates (i : Fin 6) : (Part.powerOn straps).candidates.get i = [] := get_replicate ..

@[simp] theorem powerOn_syncSettings (n : Fin 4) : (Part.powerOn straps).syncSettings.get n = SyncSettings.default :=
  get_replicate ..

@[simp] theorem powerOn_group (g : Grp) : (Part.powerOn straps).group g = GroupRow.init := get_replicate ..

@[simp] theorem powerOn_condition (f : Flag) : (Part.powerOn straps).condition f = ConditionRecord.init :=
  get_replicate ..

/-- OPERATOR alone holds for a confirmation at POWER-ON (R84). -/
theorem powerOn_channel (c : Channel) :
    (Part.powerOn straps).channel c = ChannelRecord.init (if c = .operator then .holdForConfirm else .selfRelease) := by
  rcases c with ⟨⟨⟩⟩ | ⟨⟨⟩⟩ | ⟨⟨⟩⟩ | _ | ⟨⟨⟩⟩ | ⟨⟨⟩⟩ | _ <;> rfl

end

end Sys2Proof.Machine
end

section
/-! PROOF. O11: every step keeps roles and stations unique in the unit map. -/

namespace Sys2Proof.Machine

/-! ### What the tests of a map and a claim give (R10, R12) -/

/-- Two places of a table whose kept items differ under `f` hold different ones. -/
theorem applies_differ {α β : Type} {keep : α → Bool} {f : α → β} {n : Nat} {v : Vector α n}
    (h : ((v.toList.filter keep).map f).Nodup) {i j : Fin n} (hij : i ≠ j) (hi : keep (v.get i) = true)
    (hj : keep (v.get j) = true) : f (v.get i) ≠ f (v.get j) := by
  have hpair : v.toList.Pairwise (fun a b => keep a = true → keep b = true → f a ≠ f b) := by
    rw [List.Nodup, List.pairwise_map, List.pairwise_filter] at h
    exact h
  have hlt : ∀ i j : Fin n, i < j → keep (v.get i) = true → keep (v.get j) = true → f (v.get i) ≠ f (v.get j) := by
    intro i j hij
    simpa [Vector.get_eq_getElem] using List.pairwise_iff_getElem.mp hpair i j (by simp) (by simp) hij
  rcases lt_or_gt_of_ne hij with h | h
  · exact hlt i j h hi hj
  · exact (hlt j i h hj hi).symm

theorem Part.unitMapUnique_of_eq {p q : Part} (h : q.unitMap = p.unitMap) (hp : p.unitMapUnique) : q.unitMapUnique := by
  unfold Part.unitMapUnique Part.row at *
  rwa [h]

/-- A map that its write's tests do not refuse holds no role and no station twice (R10). -/
theorem unitMapUnique_of_mapRefusal {p : Part} (h : mapRefusal p.unitMap = none) : p.unitMapUnique := by
  unfold mapRefusal at h
  dsimp only at h
  split at h
  · cases h
  · next hroles =>
    split at h
    · cases h
    · next hstations =>
      simp only [repeats, Bool.not_eq_true', decide_eq_false_iff_not, not_not] at hroles hstations
      rw [List.filter_filter] at hstations
      intro i j hij hi hj
      simp only [Part.row] at hi hj ⊢
      refine ⟨applies_differ hroles hij (by simpa using hi) (by simpa using hj), fun h0 h => ?_⟩
      exact applies_differ hstations hij (by simpa [h0] using hi) (by simpa [h0, ← h] using hj) h

theorem rowOfStation_none {p : Part} {n : Nat} (h : p.rowOfStation n = none) (r : Fin 32)
    (hr : rowBound (p.row r) = true) : (p.row r).station.val ≠ n := by
  have := List.find?_eq_none.mp h r (List.mem_finRange r)
  simpa [hr] using this

theorem rowOfStation_some {p : Part} {n : Nat} {r : Fin 32} (h : p.rowOfStation n = some r) :
    rowBound (p.row r) = true ∧ (p.row r).station.val = n := by
  simpa using List.find?_some h

@[simp] theorem Part.bind_role (p : Part) (r k : Fin 32) (n : Fin 255) :
    ((p.bind r n).row k).role = (p.row k).role := by
  have h : (p.bind r n).row k = _ := p.row_setRow r k _
  rw [h]
  split
  · next e => rw [e]
  · rfl

theorem Part.bind_station (p : Part) (r k : Fin 32) (n : Fin 255) :
    ((p.bind r n).row k).station = if k = r then n else (p.row k).station := by
  have h : (p.bind r n).row k = _ := p.row_setRow r k _
  rw [h]
  split <;> rfl

/-- Binding a row to no station, or to one that no other row binds, leaves the map unique (R12). -/
theorem bind_unique {p : Part} (hp : p.unitMapUnique) {r : Fin 32} {n : Fin 255}
    (hn : n.val ≠ 0 → ∀ i, i ≠ r → (p.row i).role ≠ .empty → (p.row i).station ≠ n) : (p.bind r n).unitMapUnique := by
  intro i j hij hi hj
  simp only [Part.bind_role, Part.bind_station] at *
  obtain ⟨hrole, hstation⟩ := hp i j hij hi hj
  refine ⟨hrole, ?_⟩
  by_cases ei : i = r
  · have ej : j ≠ r := fun e => hij (ei.trans e.symm)
    simp only [ei, ej, if_true, if_false]
    exact fun h0 h => hn h0 j ej hj h.symm
  · by_cases ej : j = r
    · simp only [ei, ej, if_true, if_false]
      exact fun h0 h => hn (h ▸ h0) i ei hi h
    · simpa only [ei, ej, if_false] using hstation

theorem claimRow_unique {p : Part} (hp : p.unitMapUnique) (k : Port) (r : Fin 32) (n : Fin 255) :
    (claimRow k r n p).1.unitMapUnique := by
  rcases claimRow_cases p k r n with h | h | h | ⟨h, hf⟩ | ⟨r2, h, hf⟩ <;> rw [h]
  · exact hp
  · exact Part.unitMapUnique_of_eq (Part.unitMap_of_tables (p.raiseFlag_tables _)) hp
  · exact Part.unitMapUnique_of_eq rfl hp
  · exact bind_unique hp fun h0 i _ hi h => rowOfStation_none hf i (by simp [rowBound, hi, h, h0]) (by rw [h])
  · refine bind_unique (bind_unique hp (by simp)) fun h0 i _ hi => ?_
    obtain ⟨hb, hn⟩ := rowOfStation_some hf
    rw [Part.bind_station]
    rw [Part.bind_role] at hi
    split
    · exact fun h => h0 (by rw [← h]; rfl)
    · next e =>
      have h2 : (p.row r2).role ≠ .empty := by
        simp only [rowBound, Bool.and_eq_true, bne_iff_ne] at hb
        exact hb.1
      exact fun h => (hp i r2 e hi h2).2 (by rwa [h]) (h.trans (Fin.ext hn.symm))

theorem announce_unique {p : Part} (hp : p.unitMapUnique) (k : Port) (f : AnnounceFrame) :
    (announce k f p).1.unitMapUnique :=
  announce_keeps p Part.unitMapUnique (Part.unitMapUnique_of_eq rfl hp) (fun r n => claimRow_unique hp k r n)
    fun _ _ _ hq => Part.unitMapUnique_of_eq rfl hq

/-- Rows from past the end of a table on change nothing. -/
theorem overlay_past {α β : Type} {n : Nat} (f : α → β → α) (l : List β) {i : Nat} (v : Vector α n) (h : n ≤ i) :
    overlay f l i v = v := by
  induction l generalizing i with
  | nil => rfl
  | cons b l ih => rw [overlay, dif_neg (Nat.not_lt.mpr h), ih (Nat.le_succ_of_le h)]

/-- A write of the unit map lays its rows over it (R10). -/
theorem applyMap_unitMap (ks : List UnitMapRow) (i : Nat) (p : Part) :
    (applyMap ks i p).1.unitMap = overlay (fun _ r => r) ks i p.unitMap := by
  induction ks generalizing i p with
  | nil => rfl
  | cons k ks ih =>
    simp only [applyMap, overlay]
    split
    · exact ih ..
    · next h => exact (overlay_past _ ks p.unitMap (by omega)).symm

theorem writeUnitMap_unique {p : Part} (hp : p.unitMapUnique) (m : Sender) (first : Nat) (rows : List UnitMapRow) :
    (writeUnitMap m first rows p).1.unitMapUnique := by
  refine writeWith_keeps _ hp fun ks refs _ hw => unitMapUnique_of_mapRefusal ?_
  rw [applyMap_unitMap]
  exact hw

@[simp] theorem rekindSource_stays (old new : SourceKind) (s : Src) (p : Part) :
    p.Stays (rekindSource old new s p).1 := by
  simp [rekindSource]

@[simp] theorem rekindAll_stays (old : Topology) (ss : List Src) (p : Part) : p.Stays (rekindAll old ss p).1 := by
  induction ss generalizing p with
  | nil => simp [rekindAll]
  | cons s ss ih => simp [rekindAll, ih]

@[simp] theorem applyTopology_stays (t : Topology) (p : Part) : p.Stays (applyTopology t p).1 := by simp [applyTopology]

theorem writeTopology_stays (p : Part) (m : Sender) (first : Nat) (rows : List TopologyRow) :
    p.Stays (writeTopology m first rows p).1 :=
  writeWith_keeps p.Stays ⟨rfl, rfl⟩ fun ts _ _ _ => applyTopology_stays (ts.headD p.topology) p

theorem judgeServices_stays (bs : List Breaker) (p : Part) : p.Stays (bs.foldl (fun q b => q.judgeService b) p) := by
  induction bs generalizing p with
  | nil => simp
  | cons b bs ih => simpa using ih (p.judgeService b)

theorem applyLive_unitMap (row : Nat) (k : LiveRow) (p : Part) : (applyLive row k p).unitMap = p.unitMap := by
  cases k <;> simp only [applyLive]
  case point => split <;> rfl
  all_goals rfl

theorem applyLives_unitMap (ks : List LiveRow) (row : Nat) (p : Part) :
    (applyLives ks row p).unitMap = p.unitMap := by
  induction ks generalizing row p with
  | nil => rfl
  | cons k ks ih => exact (ih ..).trans (applyLive_unitMap ..)

theorem clearTallies_base (first count : Nat) (p : Part) : (clearTallies first count p).base = p.base := by
  simp only [clearTallies]
  split <;> split <;> rfl

/-- A request that is no write of the unit map leaves it. -/
theorem carryOut_unitMap (p : Part) (m : Sender) {r : Request} (h : ∀ first rows, r ≠ .writeUnitMap first rows) :
    (carryOut m r p).1.unitMap = p.unitMap := by
  by_cases hw : isWrite r = false
  · exact Part.unitMap_of_tables (Part.tables_of_base (carryOut_stays p m hw).2)
  · cases r <;> try exact absurd rfl hw
    case writeUnitMap first rows => exact absurd rfl (h first rows)
    case writeTopology => exact Part.unitMap_of_tables (Part.tables_of_base (writeTopology_stays ..).2)
    all_goals refine writeWith_keeps (fun q => q.unitMap = p.unitMap) rfl fun ks refs _ _ => ?_
    case writeRows => exact applyLives_unitMap ..
    case writeBreakerSettings =>
      exact (Part.unitMap_of_tables (Part.tables_of_base (judgeServices_stays _ _).2)).trans rfl
    case clearPortTallies => exact Part.unitMap_of_tables (Part.tables_of_base (clearTallies_base ..))
    all_goals rfl

theorem takeRequest_unique {p : Part} (hp : p.unitMapUnique) (m : Sender) (r : Request) :
    (takeRequest m r p).1.unitMapUnique := by
  have hc : p.countRequest.unitMapUnique := hp
  by_cases h : ∃ first rows, r = .writeUnitMap first rows
  · obtain ⟨first, rows, rfl⟩ := h
    exact writeUnitMap_unique hc m first rows
  · exact Part.unitMapUnique_of_eq (carryOut_unitMap _ m fun first rows e => h ⟨first, rows, e⟩) hc

theorem runTask_unique (t : Task) (p : Part) (hp : p.unitMapUnique) : (runTask t p).1.unitMapUnique := by
  by_cases ht : t.reacts = true
  · exact Part.unitMapUnique_of_eq (Part.unitMap_of_tables (Part.tables_of_base (runTask_keepsBase ht p).1)) hp
  · cases t <;> try exact absurd rfl ht
    case announce => exact announce_unique hp _ _
    case request => exact takeRequest_unique hp _ _
    all_goals refine Part.unitMapUnique_of_eq (Part.unitMap_of_tables ?_) hp
    case frame => exact Part.tables_of_base (receive_base ..)
    case checked => exact mapFrame_tables ..
    case silenceExpiry => exact silenceExpiry_tables ..
    case slewInstant => exact slewInstant_tables ..
    case restart => exact restart_tables ..

/-- Settles O11: every hand-off, the clock and POWER_ON keep each role and each station in one row. -/
theorem stepsKeepTheUnitMapUnique : Obligations.StepsKeepTheUnitMapUnique := by
  refine step_keeps Part.unitMapUnique runTask_unique (fun straps n i j _ hi => ?_) (fun p hp => ?_) (fun _ _ hp => hp)
  · exact absurd (congrArg UnitMapRow.role (powerOn_row straps i)) hi
  · exact Part.unitMapUnique_of_eq (Part.unitMap_of_tables p.tick_tables) hp

end Sys2Proof.Machine
end

section
/-! PROOF. O15: every step keeps the forward queues within 8 frames, and a port that is DOWN empty. -/

namespace Sys2Proof.Machine

theorem PortState.sound_of_up {k : PortState} (hu : k.up = true) (hq : k.queue.length ≤ queueDepth) : k.sound :=
  ⟨hq, fun h => by simp [hu] at h⟩

theorem Part.portsSound_of_ports {p q : Part} (h : q.link.ports = p.link.ports) (hp : p.portsSound) : q.portsSound := by
  intro k
  have := hp k
  simp only [Part.port] at this ⊢
  rwa [h]

theorem Part.portsSound_of_stays {p q : Part} (h : p.Stays q) (hp : p.portsSound) : q.portsSound :=
  Part.portsSound_of_ports (by rw [h.1]) hp

theorem Part.portsSound_setPort {p : Part} (hp : p.portsSound) {k : Port} {v : PortState} (hv : v.sound) :
    (p.setPort k v).portsSound := by
  intro j
  rw [Part.port_setPort]
  split
  · exact hv
  · exact hp j

section

variable {p : Part} (hp : p.portsSound)
include hp

theorem tally_sound {k : Port} {f : PortTallies → PortTallies} : (p.tally k f).portsSound :=
  Part.portsSound_setPort hp (hp k)

theorem placeResponse_sound {f : ResponseFrame} {k : Port} : (placeResponse f k p).portsSound := by
  simp only [placeResponse]
  split
  · exact hp
  · next hu =>
    have hup : (p.port k).up = true := by simpa using hu
    split <;> exact Part.portsSound_setPort hp (PortState.sound_of_up hup (hp k).1)

theorem placeStatus_sound {f : StatusFrame} {k : Port} : (placeStatus f k p).portsSound := by
  simp only [placeStatus]
  split
  · next hu => exact Part.portsSound_setPort hp (PortState.sound_of_up hu (hp k).1)
  · exact hp

theorem placeCommand_sound {f : CommandFrame} {k : Port} : (placeCommand f k p).portsSound := by
  simp only [placeCommand]
  split
  · next hu => exact Part.portsSound_setPort hp (PortState.sound_of_up hu (hp k).1)
  · exact hp

theorem acceptCommand_sound {f : CommandFrame} : (acceptCommand f p).portsSound := by
  simp only [acceptCommand]
  split
  · exact placeCommand_sound (placeCommand_sound hp)
  · exact tally_sound (tally_sound hp)

theorem offerCopy_sound {f : CommandFrame} {k : Port} : (offerCopy f k p).portsSound := by
  simp only [offerCopy]
  split
  · exact placeCommand_sound hp
  · exact tally_sound hp

theorem offerHeld_sound {c : HeldCopy} : (offerHeld c p).portsSound := by
  have h1 : (if c.one then offerCopy c.frame .one p else p).portsSound := by
    split
    · exact offerCopy_sound hp
    · exact hp
  simp only [offerHeld]
  split
  · exact offerCopy_sound h1
  · exact h1

theorem takeBack_sound : (takeBack p).portsSound := by
  have hclear {q : Part} (hq : q.portsSound) (k : Port) :
      (q.setPort k { q.port k with command := none }).portsSound := by
    refine Part.portsSound_setPort hq ⟨(hq k).1, fun hd => ?_⟩
    obtain ⟨hqueue, _, hrest⟩ := (hq k).2 hd
    exact ⟨hqueue, rfl, hrest⟩
  exact hclear (hclear hp .one) .two

theorem offerForward_sound {k : Port} {bytes : List Byte} : (offerForward k bytes p).1.portsSound := by
  simp only [offerForward]
  split
  · exact tally_sound hp
  · next hu =>
    split
    · exact tally_sound hp
    · next hq =>
      refine Part.portsSound_setPort hp (PortState.sound_of_up (by simpa using hu) ?_)
      simp only [List.length_append, List.length_singleton]
      omega

theorem egress_sound {k : Port} : (egress k p).1.portsSound := by
  have htake {q : PortState} {f : SentFrame} (h : (p.port k).take = some (q, f)) :
      q.up = (p.port k).up ∧ q.queue.length ≤ (p.port k).queue.length := by
    unfold PortState.take at h
    split at h <;> cases h <;> simp_all
  simp only [egress]
  split
  · next hu =>
    have hset {q : PortState} {f : SentFrame} (h : (p.port k).take = some (q, f)) : (p.setPort k q).portsSound := by
      obtain ⟨hup, hlen⟩ := htake h
      refine Part.portsSound_setPort hp (PortState.sound_of_up ?_ (hlen.trans (hp k).1))
      simp only [Bool.and_eq_true] at hu
      exact hup.trans hu.1
    split
    · next h => exact hset h
    · next h => exact hset h
    · exact hp
  · exact hp

theorem portUp_sound {k : Port} : (portUp k p).1.portsSound := by
  simp only [portUp]
  split
  · exact hp
  · exact Part.portsSound_setPort hp (PortState.sound_of_up rfl (Nat.zero_le _))

theorem portDown_sound {k : Port} : (portDown k p).1.portsSound := by
  simp only [portDown]
  split
  · exact Part.portsSound_setPort hp ⟨Nat.zero_le _, fun _ => ⟨rfl, rfl, rfl, rfl, rfl⟩⟩
  · exact hp

theorem transmitEnd_sound {k : Port} : (transmitEnd k p).1.portsSound := by
  simp only [transmitEnd]
  split
  · refine Part.portsSound_setPort hp ⟨(hp k).1, fun hd => ?_⟩
    obtain ⟨hqueue, hcommand, hresponse, hstatus, _⟩ := (hp k).2 hd
    exact ⟨hqueue, hcommand, hresponse, hstatus, rfl⟩
  · exact hp

theorem takeIn_sound {k : Port} {bytes : List Byte} : (takeIn k bytes p).1.portsSound := by
  simp only [takeIn]
  split
  · exact hp
  · exact tally_sound hp

theorem receive_sound {k : Port} {ok : Bool} {bytes : List Byte} : (receive k ok bytes p).1.portsSound := by
  simp only [receive]
  split
  · exact hp
  · split
    · exact tally_sound hp
    · exact offerForward_sound hp
    · exact offerForward_sound (tally_sound hp)
    · exact tally_sound hp
    · exact takeIn_sound hp
    · exact takeIn_sound (offerForward_sound hp)
    · exact offerForward_sound hp

theorem mapFrame_sound {k : Port} {h : Header} {b : Body} : (mapFrame k h b p).1.portsSound := by
  unfold mapFrame
  split
  · exact hp
  · split
    · exact tally_sound hp
    · dsimp only
      split
      · exact Part.portsSound_of_ports rfl hp
      · exact tally_sound (Part.portsSound_of_ports rfl hp)

theorem claimRow_sound {k : Port} {r : Fin 32} {n : Fin 255} : (claimRow k r n p).1.portsSound := by
  rcases claimRow_cases p k r n with h | h | h | ⟨h, _⟩ | ⟨r2, h, _⟩ <;> rw [h]
  · exact hp
  · exact Part.portsSound_of_stays (p.raiseFlag_stays _) hp
  · exact tally_sound hp
  · exact Part.portsSound_of_ports rfl hp
  · exact Part.portsSound_of_ports rfl hp

theorem announce_sound {k : Port} {f : AnnounceFrame} : (announce k f p).1.portsSound :=
  announce_keeps p Part.portsSound (tally_sound hp) (fun _ _ => claimRow_sound hp)
    fun _ _ _ hq => Part.portsSound_of_ports rfl hq

theorem respond_sound {m : Sender} {a : Answer} {rows : List RowData} : (respond m a rows p).1.portsSound := by
  have hr : (match a with
      | .refused _ => p.setManagement { p.management with refused := tick16 p.management.refused }
      | _ => p).nextSeq.portsSound := by
    split <;> exact Part.portsSound_of_ports rfl hp
  exact placeResponse_sound (placeResponse_sound hr)

theorem statusExpiry_sound : (statusExpiry p).1.portsSound := by
  have hs (f : StatusFrame) : (placeStatus f .two (placeStatus f .one p.nextSeq)).portsSound :=
    placeStatus_sound (placeStatus_sound (p := p.nextSeq) hp)
  unfold statusExpiry
  split
  · exact Part.portsSound_of_stays (by simp) (hs ⟨p.ownHeader .broadcast, p.status⟩)
  · exact hp

theorem sendEntry_sound {e : Entry} : (sendEntry e p).1.portsSound := by
  let f : CommandFrame := ⟨p.ownHeader .line, e.num, e.target, e.action, e.executeAt⟩
  have ha : (acceptCommand f p.nextSeq).portsSound := acceptCommand_sound (p := p.nextSeq) hp
  refine Part.portsSound_of_stays ?_ ha
  simp only [sendEntry]
  split <;> simp [f]

theorem judgeHead_sound {e : Entry} : (judgeHead e p).1.portsSound := by
  simp only [judgeHead]
  split
  · exact Part.portsSound_of_stays (p := p) (by simp) hp
  · split
    · exact sendEntry_sound hp
    · split
      · exact Part.portsSound_of_stays (p := p) (by simp) hp
      · exact sendEntry_sound hp

theorem handOver_sound : (handOver p).1.portsSound := by
  have hr : p.refreshDue.portsSound := Part.portsSound_of_stays p.refreshDue_stays hp
  have hset (v : Schedule) : (p.refreshDue.setSchedule v).portsSound := hr
  simp only [handOver]
  split
  · exact judgeHead_sound (takeBack_sound hr)
  · split
    · exact hr
    · split
      · exact offerHeld_sound (hset _)
      · exact judgeHead_sound hr
      · exact hr

theorem restart_sound : (restart p).1.portsSound := by
  have hr : p.restarted.portsSound := by
    intro k
    have hk := hp k
    cases k <;> refine ⟨hk.1, fun hd => ?_⟩ <;> obtain ⟨hqueue, _, hresponse, _, hsending⟩ := hk.2 hd <;>
      exact ⟨hqueue, rfl, hresponse, rfl, hsending⟩
  have h := (setStandings_stays p.restarted allFlags).1
  refine Part.portsSound_of_ports ?_ hr
  rw [restart, h]

theorem applyLives_sound {ks : List LiveRow} {row : Nat} : (applyLives ks row p).portsSound := by
  induction ks generalizing row p with
  | nil => exact hp
  | cons k ks ih =>
    refine ih (Part.portsSound_of_ports ?_ hp)
    cases k <;> simp only [applyLive]
    case point => split <;> rfl
    all_goals rfl

theorem applyMap_sound {ks : List UnitMapRow} {i : Nat} : (applyMap ks i p).1.portsSound := by
  induction ks generalizing i p with
  | nil => exact hp
  | cons k ks ih =>
    simp only [applyMap]
    split
    · exact ih (p := (p.setRow _ k).setUnit _ _) hp
    · exact hp

theorem clearTallies_sound {first count : Nat} : (clearTallies first count p).portsSound := by
  simp only [clearTallies]
  split <;> split
  · exact tally_sound (tally_sound hp)
  · exact tally_sound hp
  · exact tally_sound hp
  · exact hp

theorem carryOut_sound {m : Sender} {r : Request} : (carryOut m r p).1.portsSound := by
  by_cases hw : isWrite r = false
  · exact Part.portsSound_of_stays (carryOut_stays p m hw) hp
  · cases r <;> try exact absurd rfl hw
    case writeTopology => exact Part.portsSound_of_stays (writeTopology_stays ..) hp
    all_goals refine writeWith_keeps _ hp fun ks refs _ _ => ?_
    case writeRows => exact applyLives_sound hp
    case writeUnitMap => exact applyMap_sound hp
    case writeBreakerSettings =>
      exact Part.portsSound_of_stays (judgeServices_stays _ _) (Part.portsSound_of_ports rfl hp)
    case clearPortTallies => exact clearTallies_sound hp
    all_goals exact Part.portsSound_of_ports rfl hp

theorem slewInstant_sound : (slewInstant p).1.portsSound := by
  simp only [slewInstant]
  repeat' split
  all_goals exact Part.portsSound_of_ports rfl hp

theorem silenceExpiry_sound {r : Fin 32} : (silenceExpiry r p).1.portsSound := by
  simp only [silenceExpiry]
  repeat' split
  all_goals exact Part.portsSound_of_ports rfl hp

theorem tick_sound : p.tick.portsSound := by
  simp only [Part.tick]
  split <;> split <;> exact Part.portsSound_of_ports rfl hp

end

theorem runTask_sound (t : Task) (p : Part) (hp : p.portsSound) : (runTask t p).1.portsSound := by
  by_cases h : t.reacts = true ∧ t.usesLink = false
  · exact Part.portsSound_of_stays (runTask_keeps h.1 h.2 p).1 hp
  · cases t <;> try exact absurd ⟨rfl, rfl⟩ h
    case frame => exact receive_sound hp
    case announce => exact announce_sound hp
    case request => exact carryOut_sound (p := p.countRequest) hp
    case portUp => exact portUp_sound hp
    case portDown => exact portDown_sound hp
    case transmitEnd => exact transmitEnd_sound hp
    case silenceExpiry => exact silenceExpiry_sound hp
    case slewInstant => exact slewInstant_sound hp
    case statusExpiry => exact statusExpiry_sound hp
    case checked => exact mapFrame_sound hp
    case egress => exact egress_sound hp
    case handOver => exact handOver_sound hp
    case respond => exact respond_sound hp
    case restart => exact restart_sound hp

/-- Settles O15: every hand-off, the clock and POWER_ON keep the ports sound. -/
theorem stepsKeepThePortsSound : Obligations.StepsKeepThePortsSound := by
  refine step_keeps Part.portsSound runTask_sound (fun straps n k => ?_) (fun p hp => tick_sound hp)
    (fun _ _ hp => Part.portsSound_of_ports rfl hp)
  cases k <;> exact ⟨Nat.zero_le _, fun _ => ⟨rfl, rfl, rfl, rfl, rfl⟩⟩

end Sys2Proof.Machine
end

section
/-! PROOF. O12: every step keeps every setting within its range. -/

namespace Sys2Proof.Machine

/-! ### The judge of each row gives a row in range (R189) -/

theorem within_intoRange {lo hi : Nat} (h : lo ≤ hi) (n : Nat) : within lo hi (intoRange lo hi n) = true := by
  simp [within, intoRange, h]

theorem timeInRange_of_judge {row : Nat} {k c : TimeSettings} {refs : List FieldRef}
    (h : judgeTime row k = .ok (c, refs)) : timeInRange c = true := by
  cases h
  simp [timeInRange, within_intoRange]

theorem sourceInRange_of_judge {row : Nat} {k c : SourceSettings} {refs : List FieldRef}
    (h : judgeSource row k = .ok (c, refs)) : sourceInRange c = true := by
  unfold judgeSource at h
  dsimp only at h
  split at h
  · cases h
  · next hbands =>
    split at h
    · cases h
    · next hfloors =>
      cases h
      simp only [not_or, not_lt] at hbands hfloors
      obtain ⟨h1, h2, h3, h4⟩ := hbands
      have hf : (sourceFields (clampSource k)).all (fun f => within f.lo f.hi f.value) = true := by
        simp [sourceFields, clampSource, within_intoRange]
      simp [sourceInRange, hf, h1, h2, h3, h4, hfloors]

theorem breakerInRange_of_judge {row : Nat} {k c : BreakerSettings} {refs : List FieldRef}
    (h : judgeBreaker row k = .ok (c, refs)) : breakerInRange c = true := by
  cases h
  have h0 := within_intoRange (lo := 0) (hi := 65535) (by omega) k.serviceLimit
  simp only [within, Nat.zero_le, decide_true, Bool.true_and] at h0
  simp [breakerInRange, within_intoRange, h0]

theorem busInRange_of_judge {row : Nat} {k c : BusSettings} {refs : List FieldRef}
    (h : judgeBus row k = .ok (c, refs)) : busInRange c = true := by
  unfold judgeBus at h
  dsimp only at h
  split at h
  · cases h
  · next hlt =>
    cases h
    have hf : (busFields (clampBus k)).all (fun f => within f.lo f.hi f.value) = true := by
      simp [busFields, clampBus, within_intoRange]
    simpa [busInRange, hf] using hlt

theorem syncInRange_of_judge {row : Nat} {k c : SyncSettings} {refs : List FieldRef}
    (h : judgeSync row k = .ok (c, refs)) : syncInRange c = true := by
  unfold judgeSync at h
  dsimp only at h
  split at h
  · cases h
  · next hlt =>
    cases h
    simpa [syncInRange, syncFields, within_intoRange] using hlt

theorem scheduleInRange_of_judge {row : Nat} {k c : ScheduleSettings} {refs : List FieldRef}
    (h : judgeSchedule row k = .ok (c, refs)) : scheduleInRange c = true := by
  cases h
  simp [scheduleInRange, within_intoRange]

theorem unitRowInRange_of_judge {row : Nat} {k c : UnitMapRow} {refs : List FieldRef}
    (h : judgeUnitRow row k = .ok (c, refs)) : unitRowInRange c = true := by
  unfold judgeUnitRow at h
  split at h
  · next he =>
    cases h
    simp [unitRowInRange, he]
  · cases h
    simp [unitRowInRange, within_intoRange]

theorem stepInRange_of_stepOf {w : StepWrite} {s : Step} (h : stepOf w = some s) : stepInRange s = true := by
  cases w <;> simp only [stepOf, Option.map_eq_some_iff, Option.bind_eq_bind, Option.bind_eq_some_iff] at h
  case sync =>
    obtain ⟨b, _, r, _, i, _, n, _, h⟩ := h
    split at h
    · cases h
    · next hn =>
      cases h
      simpa [stepInRange] using hn
  case waitDead =>
    obtain ⟨q, _, rfl⟩ := h
    exact within_intoRange (by omega) _
  case dwell =>
    cases h
    simp [stepInRange, intoRange]
  case waitHealthy =>
    obtain ⟨q, _, rfl⟩ := h
    exact within_intoRange (by omega) _
  case shedFit =>
    obtain ⟨_, _, _, _, h⟩ := h
    cases h
    rfl
  case unknown => cases h
  all_goals
    obtain ⟨_, _, rfl⟩ := h
    rfl

theorem stepsInRange_of_stepsOf {ws : List StepWrite} {ss : List Step} (h : stepsOf ws = some ss) :
    ss.length = ws.length ∧ ss.all stepInRange = true := by
  induction ws generalizing ss with
  | nil =>
    cases h
    exact ⟨rfl, rfl⟩
  | cons w ws ih =>
    simp only [stepsOf] at h
    split at h
    · next hs hrest =>
      cases h
      obtain ⟨hlen, hall⟩ := ih hrest
      simp [hlen, hall, stepInRange_of_stepOf hs]
    · cases h

theorem templateInRange_of_judge {row : Nat} {k : TemplateWrite} {t : Template} {refs : List FieldRef}
    (h : judgeTemplateRow row k = .ok (t, refs)) : t.inRange = true := by
  unfold judgeTemplateRow at h
  split at h
  · cases h
  · next hcount =>
    split at h
    · next hs hr hc =>
      split at h
      · cases h
      · next hreq =>
        cases h
        obtain ⟨hlen, hall⟩ := stepsInRange_of_stepsOf hs
        simp only [not_or, not_lt, not_not] at hcount hreq
        simp [Template.inRange, hall, repeats, hreq.1, hreq.2]
        omega
    · cases h

theorem candidatesInRange_of_judge {row : Nat} {k : List Nat} {l : List (Fin 24)} {refs : List FieldRef}
    (h : judgeCandidates row k = .ok (l, refs)) : l.length ≤ 4 ∧ l.Nodup := by
  unfold judgeCandidates at h
  split at h
  · split at h
    · cases h
    · next hl =>
      cases h
      simpa using hl
  · cases h

theorem groupInRange_of_judge {row : Nat} {k g : GroupWrite} {refs : List FieldRef}
    (h : judgeGroup row k = .ok (g, refs)) : g.demand ≤ 50000 ∧ g.rank ≤ 15 := by
  unfold judgeGroup at h
  split at h
  · cases h
  · next hr =>
    cases h
    simpa [intoRange] using hr

theorem rankUnique_of_refusal {v : Vector GroupRow 16} (h : rankRefusal v = none) {i j : Fin 16} (hij : i ≠ j)
    (hi : (v.get i).rank ≠ 0) : (v.get i).rank ≠ (v.get j).rank := by
  unfold rankRefusal at h
  split at h
  · cases h
  · next hn =>
    simp only [repeats, Bool.not_eq_true', decide_eq_false_iff_not, not_not, List.filter_map] at hn
    intro he
    exact applies_differ hn hij (by simpa using hi) (by simpa [← he] using hi) he

/-! ### Claims, writes and the tables -/

/-- Every setting of the tables lies in its range (R189, R169). -/
def Tables.inRange (t : Tables) : Prop :=
  timeInRange t.time = true ∧ scheduleInRange t.schedule = true ∧ within 50 1000 t.statusPeriod = true ∧
    (∀ r, unitRowInRange (t.unitMap.get r) = true) ∧ (∀ s, sourceInRange (t.sourceSettings.get s) = true) ∧
    (∀ b : Breaker, breakerInRange (t.breakerSettings.get b.idx) = true) ∧
    (∀ x, busInRange (t.busSettings.get x) = true) ∧
    (∀ n, syncInRange (t.syncSettings.get n) = true) ∧ (∀ n, (t.templates.get n).inRange = true) ∧
    (∀ i, (t.candidates.get i).length ≤ 4 ∧ (t.candidates.get i).Nodup) ∧
    (∀ g, (t.groups g).1 ≤ 50000 ∧ (t.groups g).2 ≤ 15) ∧
    ∀ g h, g ≠ h → (t.groups g).2 ≠ 0 → (t.groups g).2 ≠ (t.groups h).2

theorem Part.settingsInRange_iff (p : Part) : p.settingsInRange ↔ p.tables.inRange := Iff.rfl

theorem Part.settingsInRange_of_tables {p q : Part} (h : q.tables = p.tables) (hp : p.settingsInRange) :
    q.settingsInRange := by
  rw [Part.settingsInRange_iff] at *
  rwa [h]

section

variable {p : Part} (hp : p.settingsInRange)
include hp

theorem bind_inRange {r : Fin 32} {n : Fin 255} : (p.bind r n).settingsInRange := by
  obtain ⟨ht, hs, hm, hrows, hrest⟩ := hp
  refine ⟨ht, hs, hm, fun k => ?_, hrest⟩
  have h : (p.bind r n).row k = _ := p.row_setRow r k _
  rw [h]
  split
  · exact hrows r
  · exact hrows k

theorem claimRow_inRange {k : Port} {r : Fin 32} {n : Fin 255} : (claimRow k r n p).1.settingsInRange := by
  rcases claimRow_cases p k r n with h | h | h | ⟨h, _⟩ | ⟨r2, h, _⟩ <;> rw [h]
  · exact hp
  · exact Part.settingsInRange_of_tables (p.raiseFlag_tables _) hp
  · exact Part.settingsInRange_of_tables (p.tally_tables ..) hp
  · exact bind_inRange hp
  · exact bind_inRange (bind_inRange hp)

theorem announce_inRange {k : Port} {f : AnnounceFrame} : (announce k f p).1.settingsInRange :=
  announce_keeps p Part.settingsInRange (Part.settingsInRange_of_tables (p.tally_tables ..) hp)
    (fun _ _ => claimRow_inRange hp) fun _ _ _ hq => Part.settingsInRange_of_tables rfl hq

theorem applyMap_inRange {ks : List UnitMapRow} (hks : ∀ k ∈ ks, unitRowInRange k = true) {i : Nat} :
    (applyMap ks i p).1.settingsInRange := by
  induction ks generalizing i p with
  | nil => exact hp
  | cons k ks ih =>
    simp only [applyMap]
    split
    · next h =>
      refine ih (p := (p.setRow ⟨i, h⟩ k).setUnit _ _) ?_ fun x hx => hks x (List.mem_cons_of_mem _ hx)
      obtain ⟨ht, hs, hm, hrows, hrest⟩ := hp
      refine ⟨ht, hs, hm, fun r => ?_, hrest⟩
      have hrow : ((p.setRow ⟨i, h⟩ k).setUnit ⟨i, h⟩ (rewriteUnit (p.row ⟨i, h⟩) k (p.unit ⟨i, h⟩)).1).row r = _ :=
        p.row_setRow ⟨i, h⟩ r k
      rw [hrow]
      split
      · exact hks k (List.mem_cons_self ..)
      · exact hrows r
    · exact hp

/-- A row of WRITE_ROWS whose settings lie in their ranges (R20, R138, R156, R195). -/
def liveInRange : LiveRow → Prop
  | .time k => timeInRange k = true
  | .sync k => syncInRange k = true
  | .schedule k => scheduleInRange k = true
  | .management n => within 50 1000 n = true
  | .link _ | .point _ => True

omit hp in
theorem liveInRange_of_judge {table row : Nat} {k c : LiveRow} {refs : List FieldRef}
    (h : judgeLive table row k = .ok (c, refs)) : liveInRange c := by
  have lifted {α : Type} {f : α → LiveRow} {j : Judged α}
      (hl : (match j with
        | .ok (x, rs) => .ok (f x, rs)
        | .error r => .error r : Judged LiveRow) = .ok (c, refs)) : ∃ x, j = .ok (x, refs) ∧ f x = c := by
    rcases j with r | ⟨x, rs⟩
    · cases hl
    · cases hl
      exact ⟨x, rfl, rfl⟩
  unfold judgeLive at h
  dsimp only at h
  split at h
  · cases h
  · next ht =>
    clear ht
    cases k <;> dsimp only at h
    case link =>
      cases h
      trivial
    case point =>
      cases h
      trivial
    case time k =>
      obtain ⟨x, hj, rfl⟩ := lifted (f := .time) (j := judgeTime row k) h
      exact timeInRange_of_judge hj
    case sync k =>
      obtain ⟨x, hj, rfl⟩ := lifted (f := .sync) (j := judgeSync row k) h
      exact syncInRange_of_judge hj
    case schedule k =>
      obtain ⟨x, hj, rfl⟩ := lifted (f := .schedule) (j := judgeSchedule row k) h
      exact scheduleInRange_of_judge hj
    case management n =>
      obtain ⟨x, hj, rfl⟩ := lifted (f := .management) (j := judgePeriod row n) h
      cases hj
      exact within_intoRange (by omega) _

theorem applyLive_inRange {row : Nat} {k : LiveRow} (hk : liveInRange k) : (applyLive row k p).settingsInRange := by
  cases k <;> simp only [applyLive]
  case point =>
    split
    · exact Part.settingsInRange_of_tables rfl hp
    · exact hp
  case link => exact hp
  all_goals obtain ⟨ht, hs, hm, hrows, hsrc, hbrk, hbus, hsync, hrest⟩ := hp
  case time => exact ⟨hk, hs, hm, hrows, hsrc, hbrk, hbus, hsync, hrest⟩
  case schedule => exact ⟨ht, hk, hm, hrows, hsrc, hbrk, hbus, hsync, hrest⟩
  case management => exact ⟨ht, hs, hk, hrows, hsrc, hbrk, hbus, hsync, hrest⟩
  case sync =>
    refine ⟨ht, hs, hm, hrows, hsrc, hbrk, hbus, fun n => ?_, hrest⟩
    exact overlay_at (Q := fun r => syncInRange r = true) (hsync n) fun _ b hb _ => List.mem_singleton.mp hb ▸ hk

theorem applyLives_inRange {ks : List LiveRow} (hks : ∀ k ∈ ks, liveInRange k) {row : Nat} :
    (applyLives ks row p).settingsInRange := by
  induction ks generalizing row p with
  | nil => exact hp
  | cons k ks ih =>
    exact ih (applyLive_inRange hp (hks k (List.mem_cons_self ..))) fun x hx => hks x (List.mem_cons_of_mem _ hx)

omit hp in
theorem PerBus.get_set {α : Type} (v : PerBus α) (x y : Bus) (z : α) :
    (v.set x z).get y = if y = x then z else v.get y := by
  cases x <;> cases y <;> rfl

omit hp in
/-- What a bus's settings have, and every written row has, the bus's settings have then. -/
theorem busesWith_at {Q : BusSettings → Prop} {ks : List BusSettings} {row : Nat} {v : PerBus BusSettings} {x : Bus}
    (hv : Q (v.get x)) (hks : ∀ k ∈ ks, Q k) : Q ((busesWith ks row v).get x) := by
  induction ks generalizing row v with
  | nil => exact hv
  | cons k ks ih =>
    refine ih ?_ fun y hy => hks y (List.mem_cons_of_mem _ hy)
    have hk := hks k (List.mem_cons_self ..)
    split
    · next y _ =>
      rw [PerBus.get_set]
      split
      · exact hk
      · exact hv
    · exact hv

theorem writeGroupTable_inRange {m : Sender} {first : Nat} {rows : List GroupWrite} :
    (writeGroupTable m first rows p).1.settingsInRange := by
  refine writeWith_keeps _ hp fun ks refs hj hw => ?_
  have hks := judgeRows_all (Q := fun g => g.demand ≤ 50000 ∧ g.rank ≤ 15) (fun _ _ _ _ => groupInRange_of_judge) hj
  obtain ⟨ht, hs, hm, hrows, hsrc, hbrk, hbus, hsync, htemplates, hlists, hgroups, _⟩ := hp
  refine ⟨ht, hs, hm, hrows, hsrc, hbrk, hbus, hsync, htemplates, hlists, fun g => ?_, fun g h hgh hg => ?_⟩
  · exact overlay_at (Q := fun r : GroupRow => r.demand ≤ 50000 ∧ r.rank ≤ 15) (hgroups g) fun _ k hk _ => hks k hk
  · exact rankUnique_of_refusal hw hgh hg

theorem carryOut_inRange {m : Sender} {r : Request} : (carryOut m r p).1.settingsInRange := by
  by_cases hw : isWrite r = false
  · exact Part.settingsInRange_of_tables (Part.tables_of_base (carryOut_stays p m hw).2) hp
  · cases r <;> try exact absurd rfl hw
    case writeTopology => exact Part.settingsInRange_of_tables (Part.tables_of_base (writeTopology_stays ..).2) hp
    case writeGroupTable => exact writeGroupTable_inRange hp
    all_goals refine writeWith_keeps _ hp fun ks refs hj _ => ?_
    case writeRows => exact applyLives_inRange hp (judgeRows_all (fun _ _ _ _ => liveInRange_of_judge) hj)
    case writeUnitMap =>
      exact applyMap_inRange hp
        (judgeRows_all (Q := fun k => unitRowInRange k = true) (fun _ _ _ _ => unitRowInRange_of_judge) hj)
    case clearPortTallies => exact Part.settingsInRange_of_tables (Part.tables_of_base (clearTallies_base ..)) hp
    all_goals obtain ⟨ht, hs, hm, hrows, hsrc, hbrk, hbus, hsync, htemplates, hlists, hgroups⟩ := hp
    case writeTemplates =>
      have hks := judgeRows_all (Q := fun t => t.inRange = true) (fun _ _ _ _ => templateInRange_of_judge) hj
      exact ⟨ht, hs, hm, hrows, hsrc, hbrk, hbus, hsync,
        overlay_rows (Q := fun t : Template => t.inRange = true) htemplates hks, hlists, hgroups⟩
    case writeCandidateLists =>
      have hks := judgeRows_all (Q := fun l => l.length ≤ 4 ∧ l.Nodup) (fun _ _ _ _ => candidatesInRange_of_judge) hj
      exact ⟨ht, hs, hm, hrows, hsrc, hbrk, hbus, hsync, htemplates,
        overlay_rows (Q := fun l : List (Fin 24) => l.length ≤ 4 ∧ l.Nodup) hlists hks, hgroups⟩
    case writeSourceSettings =>
      have hks := judgeRows_all (Q := fun k => sourceInRange k = true) (fun _ _ _ _ => sourceInRange_of_judge) hj
      exact ⟨ht, hs, hm, hrows,
        overlay_rows (Q := fun k : SourceSettings => sourceInRange k = true) hsrc hks,
        hbrk, hbus, hsync, htemplates, hlists, hgroups⟩
    case writeBreakerSettings =>
      have hks := judgeRows_all (Q := fun k => breakerInRange k = true) (fun _ _ _ _ => breakerInRange_of_judge) hj
      refine Part.settingsInRange_of_tables (Part.tables_of_base (judgeServices_stays _ _).2) ?_
      exact ⟨ht, hs, hm, hrows, hsrc,
        fun b => overlay_at (Q := fun k : BreakerSettings => breakerInRange k = true) (hbrk b) fun _ k hk _ => hks k hk,
        hbus, hsync, htemplates, hlists, hgroups⟩
    case writeBusSettings =>
      have hks := judgeRows_all (Q := fun k => busInRange k = true) (fun _ _ _ _ => busInRange_of_judge) hj
      exact ⟨ht, hs, hm, hrows, hsrc, hbrk, fun n => busesWith_at (hbus n) hks, hsync, htemplates, hlists, hgroups⟩

end

theorem runTask_inRange (t : Task) (p : Part) (hp : p.settingsInRange) : (runTask t p).1.settingsInRange := by
  by_cases ht : t.reacts = true
  · exact Part.settingsInRange_of_tables (Part.tables_of_base (runTask_keepsBase ht p).1) hp
  · cases t <;> try exact absurd rfl ht
    case announce => exact announce_inRange hp
    case request => exact carryOut_inRange (p := p.countRequest) hp
    all_goals refine Part.settingsInRange_of_tables ?_ hp
    case frame => exact Part.tables_of_base (receive_base ..)
    case checked => exact mapFrame_tables ..
    case silenceExpiry => exact silenceExpiry_tables ..
    case slewInstant => exact slewInstant_tables ..
    case restart => exact restart_tables ..

theorem powerOn_inRange (straps : BitVec 8) : (Part.powerOn straps).settingsInRange := by
  simp only [Part.settingsInRange, powerOn_row, powerOn_srcSet, powerOn_brkSet, powerOn_busSet, powerOn_syncSettings,
    powerOn_template, powerOn_candidates, powerOn_group]
  exact ⟨rfl, rfl, rfl, fun _ => by decide, fun _ => by decide, fun _ => by decide, fun _ => by decide,
    fun _ => by decide, fun _ => by decide, by simp, fun _ => by decide, fun _ _ _ h => absurd rfl h⟩

/-- Settles O12: every hand-off, the clock and POWER_ON keep every setting in its range. -/
theorem stepsKeepSettingsInRange : Obligations.StepsKeepSettingsInRange :=
  step_keeps Part.settingsInRange runTask_inRange
    (fun straps _ => Part.settingsInRange_of_tables rfl (powerOn_inRange straps))
    (fun p hp => Part.settingsInRange_of_tables p.tick_tables hp) (fun _ _ hp => Part.settingsInRange_of_tables rfl hp)

end Sys2Proof.Machine
end

section
/-! PROOF. O17: PORT_UP, PORT_DOWN and TRANSMIT_END change one port. -/

namespace Sys2Proof.Machine

/-! ### Hand-offs that find nothing to do -/

@[simp] theorem Part.setPort_self (p : Part) (k : Port) : p.setPort k (p.port k) = p := by cases k <;> rfl

@[simp] theorem Part.port_setPort_same (p : Part) (k : Port) (v : PortState) : (p.setPort k v).port k = v := by
  cases k <;> rfl

@[simp] theorem Part.setPort_setPort (p : Part) (k : Port) (v w : PortState) :
    (p.setPort k v).setPort k w = p.setPort k w := by
  cases k <;> rfl

theorem Part.port_setPort_other (p : Part) (k : Port) (v : PortState) :
    (p.setPort k v).port (otherPort k) = p.port (otherPort k) := by
  cases k <;> rfl

/-- A port at rest has nothing for its arbiter (R6). -/
theorem egress_of_rests {p : Part} {k : Port} (h : (p.port k).rests = true) : egress k p = (p, []) := by
  unfold egress
  split
  · next hu =>
    simp only [Bool.and_eq_true, Option.isNone_iff_eq_none] at hu
    simp only [PortState.rests, hu.1, hu.2, Bool.not_true, Option.isSome_none, Bool.or_self, Bool.false_or,
      Bool.and_eq_true, Option.isNone_iff_eq_none, List.isEmpty_iff] at h
    obtain ⟨⟨⟨hc, hq⟩, hr⟩, hs⟩ := h
    simp [PortState.take, hc, hq, hr, hs]
  · rfl

/-- Every entry has been SENT and no copy is held, so that a hand-over has nothing to judge (R162, R163). -/
def Part.allSent (p : Part) : Prop := (∀ e ∈ p.schedule.entries, e.sent = true) ∧ p.schedule.held = []

theorem Part.allSent_of_scheduleEmpty {p : Part} (h : p.scheduleEmpty) : p.allSent := by
  obtain ⟨he, hh⟩ := h
  exact ⟨by simp [he], hh⟩

theorem Part.refreshDue_of_entries {p : Part} (h : ∀ e ∈ p.schedule.entries, p.withDue e = e) : p.refreshDue = p := by
  have he : p.schedule.entries.map p.withDue = p.schedule.entries := by
    rw [List.map_congr_left h, List.map_id']
  rw [Part.refreshDue, he]
  rfl

theorem handOver_of_allSent {p : Part} (h : p.allSent) : handOver p = (p, []) := by
  obtain ⟨hs, hh⟩ := h
  have hr : p.refreshDue = p := Part.refreshDue_of_entries fun e he => by simp [Part.withDue, hs e he]
  have hl : p.sendLine = [] := by
    rw [Part.sendLine, List.filter_eq_nil_iff]
    exact fun e he => by simp [hs e he]
  simp [handOver, hr, hl, hh]

theorem drains_handOver {p : Part} (h : p.allSent) : Drains [.handOver] p p 1 :=
  drains_single (handOver_of_allSent h) (drains_nil p)

theorem drains_handOver_empty {p : Part} (h : p.scheduleEmpty) : Drains [.handOver] p p 1 :=
  drains_handOver (Part.allSent_of_scheduleEmpty h)

/-- An event of one hand-off that comes to an end within the bound. -/
theorem event_eq {s : State} {t : Task} {q : Part} {n : Nat} (hs : s.calm) (h : Drains [t] s.part q n)
    (hn : n ≤ 16) : s.event t = { s with part := q } :=
  event_of_drains hs h (hn.trans (by decide))

/-! ### The events of a port (R5, R6) -/

theorem drains_portUp {p : Part} (h : p.scheduleEmpty) (k : Port) :
    ∃ n, n ≤ 16 ∧ Drains [.portUp k] p
      (if (p.port k).up then p else p.setPort k ⟨true, [], none, none, none, none, (p.port k).tallies⟩) n := by
  split
  · next hu => exact ⟨1, by omega, drains_single (by simp [runTask, portUp, hu]) (drains_nil p)⟩
  · next hu =>
    refine ⟨2, by omega, drains_cons ?_⟩
    simpa [runTask, portUp, hu, PortState.init] using drains_handOver_empty (p := p.setPort k _) h

theorem drains_portDown {p : Part} (h : p.scheduleEmpty) (k : Port) :
    ∃ n, n ≤ 16 ∧ Drains [.portDown k] p
      (if (p.port k).up then
        p.setPort k ⟨false, [], none, none, none, none, countDiscard (p.port k).waiting (p.port k).tallies⟩
      else p) n := by
  split
  · next hu =>
    refine ⟨2, by omega, drains_cons ?_⟩
    simpa [runTask, portDown, hu, PortState.init] using drains_handOver_empty (p := p.setPort k _) h
  · next hu => exact ⟨1, by omega, drains_single (by simp [runTask, portDown, hu]) (drains_nil p)⟩

theorem PortState.take_cases (k : PortState) :
    (k.take = none ∧ k.sendNext = { k with sending := none }) ∨ ∃ f, k.take = some (k.sendNext, f) := by
  unfold PortState.take PortState.sendNext
  split <;> simp_all

/-- The arbiter of a port that is UP with its transmitter free sends the next frame, and tells the Command Scheduler at
most (R6, R162). -/
theorem egress_free {p : Part} {k : Port} (hu : (p.port k).up = true) (hs : (p.port k).sending = none) :
    ∃ ts, egress k p = (p.setPort k (p.port k).sendNext, ts) ∧ (ts = [] ∨ ts = [.handOver]) := by
  unfold egress
  rw [if_pos (by simp [hu, hs])]
  rcases (p.port k).take_cases with ⟨ht, hn⟩ | ⟨f, ht⟩
  · refine ⟨[], ?_, .inl rfl⟩
    rw [ht, hn, ← hs]
    exact congrArg (·, []) (p.setPort_self k).symm
  · rw [ht]
    cases f
    case command => exact ⟨_, rfl, .inr rfl⟩
    all_goals exact ⟨_, rfl, .inl rfl⟩

theorem drains_egress_free {p : Part} (h : p.allSent) {k : Port} (hu : (p.port k).up = true)
    (hs : (p.port k).sending = none) :
    ∃ n, n ≤ 2 ∧ Drains [.egress k] p (p.setPort k (p.port k).sendNext) n := by
  obtain ⟨ts, he, rfl | rfl⟩ := egress_free hu hs
  · exact ⟨1, by omega, drains_single he (drains_nil _)⟩
  · refine ⟨2, by omega, drains_cons ?_⟩
    rw [runTask, he]
    exact drains_handOver (p := p.setPort k _) h

theorem drains_transmitEnd {p : Part} (h : p.scheduleEmpty) {k : Port} (hk : (p.port k).sound) :
    ∃ n, n ≤ 16 ∧ Drains [.transmitEnd k] p
      (if (p.port k).sending.isSome then p.setPort k (p.port k).sendNext else p) n := by
  split
  · next hs =>
    have hu : (p.port k).up = true := by
      by_contra hd
      obtain ⟨_, _, _, _, hnone⟩ := hk.2 (by simpa using hd)
      simp [hnone] at hs
    have hnext (q : PortState) : ({ q with sending := none } : PortState).sendNext = q.sendNext := by
      unfold PortState.sendNext
      split <;> simp_all
    obtain ⟨n, hn, hd⟩ := drains_egress_free (p := p.setPort k { p.port k with sending := none }) (k := k)
      (Part.allSent_of_scheduleEmpty (p := p) h) (by simpa using hu) (by simp)
    refine ⟨n + 1, by omega, drains_cons ?_⟩
    simpa [runTask, transmitEnd, hs, hnext] using hd
  · next hs => exact ⟨1, by omega, drains_single (by simp [runTask, transmitEnd, hs]) (drains_nil p)⟩

/-- Settles O17: each event replaces its port, and the hand-over behind it has nothing to judge. -/
theorem portsAndTransmitters : Obligations.PortsAndTransmitters := by
  refine ⟨fun s k hs he => ⟨?_, ?_⟩, fun s k hs he hk => ?_⟩
  · obtain ⟨n, hn, hd⟩ := drains_portUp he k
    refine congrArg Host.Outcome.next ((event_eq hs hd hn).trans ?_)
    split <;> rfl
  · obtain ⟨n, hn, hd⟩ := drains_portDown he k
    refine congrArg Host.Outcome.next ((event_eq hs hd hn).trans ?_)
    split <;> rfl
  · obtain ⟨n, hn, hd⟩ := drains_transmitEnd he hk
    refine congrArg Host.Outcome.next ((event_eq hs hd hn).trans ?_)
    split <;> rfl

end Sys2Proof.Machine
end

section
/-! PROOF. O18: a received frame is counted or forwarded by the order of its checks. -/

namespace Sys2Proof.Machine

/-- The event of a received frame whose hand-offs come to an end. -/
theorem frameReceived_of_drains {s : State} {k : Port} {ok : Bool} {bytes : List Byte} {q : Part} {n : Nat}
    (hs : s.calm) (h : Drains [.frame k ok bytes] s.part q n) (hn : n ≤ 16) :
    exec (.frameReceived k ok bytes) s = .next { s with part := q } :=
  congrArg Host.Outcome.next (event_eq hs h hn)

/-- A received frame that hands off nothing. -/
theorem frameReceived_of_receive {s : State} {k : Port} {ok : Bool} {bytes : List Byte} {q : Part} (hs : s.calm)
    (h : receive k ok bytes s.part = (q, [])) : exec (.frameReceived k ok bytes) s = .next { s with part := q } :=
  frameReceived_of_drains hs (drains_single h (drains_nil q)) (by omega)

theorem receive_down {p : Part} {k : Port} (hu : (p.port k).up = false) (ok : Bool) (bytes : List Byte) :
    receive k ok bytes p = (p, []) := by
  simp [receive, hu]

theorem receive_failed {p : Part} {k : Port} (hu : (p.port k).up = true) (bytes : List Byte) :
    receive k false bytes p = (p.tally k countCheck, []) := by
  simp [receive, hu, receiptOf]

section

variable {p : Part} {k : Port} {bytes : List Byte} (hu : (p.port k).up = true)
include hu

theorem receive_loop (hn : p.numbered = true) (ht : fieldAt bytes 12 2 = some nodestaType)
    (hl : headerLength ≤ bytes.length) (hs : fieldAt bytes 15 1 = some p.link.straps.toNat) :
    receive k true bytes p = (p.tally k countLoop, []) := by
  simp [receive, hu, receiptOf, ht, Nat.not_lt.mpr hl, hn, hs]

theorem receive_own (hn : p.numbered = true) (ht : fieldAt bytes 12 2 = some nodestaType)
    (hl : headerLength ≤ bytes.length) (hs : fieldAt bytes 15 1 ≠ some p.link.straps.toNat)
    (ha : bytes.take 6 = stationAddress p.link.straps) : receive k true bytes p = takeIn k bytes p := by
  simp [receive, hu, receiptOf, ht, Nat.not_lt.mpr hl, hn, hs, ha]

/-- A frame of another type, or of another station for another station, is offered to the other port (R2). -/
theorem receive_passed (h : fieldAt bytes 12 2 ≠ some nodestaType ∨
    (headerLength ≤ bytes.length ∧ fieldAt bytes 15 1 ≠ some p.link.straps.toNat ∧
      bytes.take 6 ≠ stationAddress p.link.straps ∧ bytes.take 6 ≠ lineMulticast ∧ bytes.take 6 ≠ broadcast)) :
    receive k true bytes p = offerForward (otherPort k) bytes p := by
  by_cases ht : fieldAt bytes 12 2 = some nodestaType
  · obtain ⟨hl, hs, ha, hm, hb⟩ := h.resolve_left (not_not.mpr ht)
    simp [receive, hu, receiptOf, ht, Nat.not_lt.mpr hl, hs, ha, hm, hb]
  · simp [receive, hu, receiptOf, ht]

end

/-- A frame offered to a port at rest is sent, queued, or dropped and counted (R4–R6). -/
theorem drains_offerForward {p : Part} {k : Port} (h : (p.port k).rests = true) (bytes : List Byte) :
    ∃ n, n ≤ 1 ∧ Drains (offerForward k bytes p).2 (offerForward k bytes p).1
      (p.setPort k ((p.port k).takeForward bytes)) n := by
  unfold offerForward PortState.takeForward
  dsimp only
  split
  · exact ⟨0, by omega, drains_nil _⟩
  · next hu =>
    have hup : (p.port k).up = true := by simpa using hu
    by_cases hs : (p.port k).sending = none
    · simp only [PortState.rests, hup, hs, Bool.not_true, Option.isSome_none, Bool.or_self, Bool.false_or,
        Bool.and_eq_true, Option.isNone_iff_eq_none, List.isEmpty_iff] at h
      obtain ⟨⟨⟨hc, hq⟩, hr⟩, hst⟩ := h
      simp only [hs, hq, Option.isNone_none, if_true, queueDepth, List.length_nil]
      refine ⟨1, by omega, drains_single ?_ (drains_nil _)⟩
      simp [runTask, egress, hup, PortState.take, hc]
    · have hsome : (p.port k).sending.isSome = true := Option.isSome_iff_ne_none.mpr hs
      simp only [Option.isNone_eq_false_iff.mpr hsome]
      split
      · exact ⟨0, by omega, drains_nil _⟩
      · refine ⟨1, by omega, drains_single (egress_of_rests ?_) (drains_nil _)⟩
        simp [PortState.rests, hsome]

theorem drains_frame_passed {p : Part} {k : Port} {ok : Bool} {bytes : List Byte} {q : Part}
    (h : receive k ok bytes p = offerForward (otherPort k) bytes q) (hr : (q.port (otherPort k)).rests = true) :
    ∃ n, n ≤ 16 ∧ Drains [.frame k ok bytes] p
      (q.setPort (otherPort k) ((q.port (otherPort k)).takeForward bytes)) n := by
  obtain ⟨n, hn, hd⟩ := drains_offerForward hr bytes
  refine ⟨n + 1, by omega, drains_cons ?_⟩
  rw [runTask, h, List.append_nil]
  exact hd

/-- A Command frame of the part is a whole Nodesta frame that names its station (R9). -/
theorem CommandFrame.bytes_header (f : CommandFrame) :
    fieldAt f.bytes 12 2 = some nodestaType ∧ headerLength ≤ f.bytes.length ∧
      fieldAt f.bytes 15 1 = some f.head.station.toNat := by
  obtain ⟨a, b, c, d, e, g, hg⟩ : ∃ a b c d e g, f.head.dest.address = [a, b, c, d, e, g] := by
    cases f.head.dest <;> exact ⟨_, _, _, _, _, _, rfl⟩
  refine ⟨?_, ?_, ?_⟩
  all_goals
    simp [CommandFrame.bytes, OwnHeader.bytes, hg, stationAddress, fieldAt, beBytes, beNat, headerLength, nodestaType]

/-- Settles O18: each case by the first test of R2, R3 or R11 that applies. -/
theorem receivedFramesAreCountedOrForwarded : Obligations.ReceivedFramesAreCountedOrForwarded := by
  refine ⟨fun s k bytes hs => ⟨fun hu ok => ?_, fun hu => ?_, fun hu hn ht hl => ⟨fun hst => ?_, fun hst ha =>
      ⟨fun hf => ?_, fun h b hf hb hr => ?_⟩⟩⟩,
    fun s k f hs hu hst => ?_, fun s k bytes hs hu hr hpass => ?_⟩
  · exact frameReceived_of_receive hs (receive_down hu ok bytes)
  · exact frameReceived_of_receive hs (receive_failed hu bytes)
  · exact frameReceived_of_receive hs (receive_loop hu hn ht hl hst)
  · exact frameReceived_of_receive hs (by rw [receive_own hu hn ht hl hst ha, takeIn, hf])
  · refine frameReceived_of_drains hs (n := 2) (drains_cons ?_) (by omega)
    rw [runTask, receive_own hu hn ht hl hst ha, takeIn, hf]
    refine drains_single ?_ (drains_nil _)
    cases b
    case announce => exact (hb _ _ rfl).elim
    all_goals simp [runTask, mapFrame, hr]
  · obtain ⟨ht, hl, hstation⟩ := f.bytes_header
    exact frameReceived_of_receive hs.1 (receive_loop hu hs.2 ht hl (by rw [hstation, hst]))
  · obtain ⟨n, hn, hd⟩ := drains_frame_passed (receive_passed hu hpass) hr
    exact frameReceived_of_drains hs hd hn

end Sys2Proof.Machine
end

section
/-! PROOF. O19: a LOST unit rejoins on four frames; and the supervision of an ACTIVE unit, for O6. -/

namespace Sys2Proof.Machine

/-! ### The rejoin run of a LOST unit (R16) -/

/-- A LOST unit in a rejoin run of `n` frames expects a sequence (R16). -/
def UnitRecord.rejoining (u : UnitRecord) (n : Nat) (seq : SeqNum) : Prop :=
  u.state = .lost ∧ u.rejoin = n ∧ u.expected = seq

/-- The first frame of a rejoin run is one that is not stale (R16). -/
theorem superviseUnit_rejoin_first {row : UnitMapRow} {u : UnitRecord} {seq : SeqNum} {now : Nat} (hl : u.state = .lost)
    (h0 : u.rejoin = 0) (hd : (seq - u.expected).toNat ≤ 32767) :
    (superviseUnit row u seq now).2 = .discarded ∧ (superviseUnit row u seq now).1.rejoining 1 (seq + 1) := by
  by_cases h : (seq - u.expected).toNat = 0
  · have he : seq = u.expected := by bv_omega
    simp [superviseUnit, hl, he, UnitRecord.rejoinAt, h0, UnitRecord.rejoining]
  · simp [-BitVec.toNat_sub, superviseUnit, hl, h, hd, UnitRecord.rejoinAt, UnitRecord.rejoining]

/-- A frame in sequence lengthens a rejoin run that it does not complete (R16). -/
theorem superviseUnit_rejoin_next {row : UnitMapRow} {u : UnitRecord} {n : Nat} {seq : SeqNum} {now : Nat}
    (h : u.rejoining n seq) (hn : n + 1 < 4) :
    (superviseUnit row u seq now).2 = .discarded ∧ (superviseUnit row u seq now).1.rejoining (n + 1) (seq + 1) := by
  obtain ⟨hl, hr, he⟩ := h
  simp [superviseUnit, hl, hr, he, UnitRecord.rejoinAt, Nat.not_le.mpr hn, UnitRecord.rejoining]

/-- The fourth frame of a rejoin run returns the unit to ACTIVE (R16). -/
theorem superviseUnit_rejoin_last {row : UnitMapRow} {u : UnitRecord} {seq : SeqNum} {now : Nat}
    (h : u.rejoining 3 seq) :
    (superviseUnit row u seq now).2 = .passed ∧ (superviseUnit row u seq now).1.state = .active ∧
      (superviseUnit row u seq now).1.miss = 0 ∧ (superviseUnit row u seq now).1.expected = seq + 1 ∧
      (superviseUnit row u seq now).1.last = some now := by
  obtain ⟨hl, hr, he⟩ := h
  simp [superviseUnit, hl, hr, he, UnitRecord.rejoinAt]

/-- Settles O19: the run grows frame by frame and ends with the fourth. -/
theorem lostUnitRejoinsOnFourFrames : Obligations.LostUnitRejoinsOnFourFrames := by
  intro row u seq a b c d hl h0 hd
  obtain ⟨d1, r1⟩ := superviseUnit_rejoin_first (row := row) (now := a) hl h0 hd
  obtain ⟨d2, r2⟩ := superviseUnit_rejoin_next (row := row) (now := b) r1 (by omega)
  obtain ⟨d3, r3⟩ := superviseUnit_rejoin_next (row := row) (now := c) r2 (by omega)
  rw [BitVec.add_assoc] at r2
  rw [BitVec.add_assoc, BitVec.add_assoc] at r3
  obtain ⟨p4, s4, m4, e4, l4⟩ := superviseUnit_rejoin_last (row := row) (now := d) r3
  rw [BitVec.add_assoc] at d3
  exact ⟨⟨d1, d2, d3, r3.1⟩, p4, s4, m4, e4.trans (BitVec.add_assoc ..), l4⟩

/-! ### Supervision of an ACTIVE unit -/

/-- R14 for an ACTIVE unit: in sequence, ahead, or behind. -/
theorem superviseUnit_active (row : UnitMapRow) (u : UnitRecord) (seq : SeqNum) (now : Nat) (ha : u.state = .active) :
    let d := (seq - u.expected).toNat
    let heard : UnitRecord :=
      { u with last := some now, silence := if isManager row.role then .stopped else .running 0 (row.silence * 1000) }
    let v := superviseUnit row u seq now
    (d = 0 →
      v = ({ heard with
        expected := u.expected + 1
        goodRun := if u.goodRun + 1 < 32 then u.goodRun + 1 else 0
        miss := if u.goodRun + 1 < 32 then u.miss else u.miss - 1 }, .passed)) ∧
    (1 ≤ d → d ≤ 32767 →
      let ahead : UnitRecord := { heard with miss := min 15 (u.miss + d), goodRun := 0, expected := seq + 1 }
      v =
        if isManager row.role = false ∧ row.loss ≤ min 15 (u.miss + d) then
          ({ ahead with state := .lost, rejoin := 0 }, .lost)
        else (ahead, .passed)) ∧
    (32768 ≤ d → v = ({ heard with stale := tick16 u.stale }, .discarded)) := by
  intro d heard v
  obtain ⟨st, expected, miss, goodRun, rejoin, last, stale, silence⟩ := u
  obtain rfl : st = .active := ha
  refine ⟨fun h0 => ?_, fun h1 h2 => ?_, fun h => ?_⟩ <;> simp only [v, superviseUnit]
  · rw [if_pos h0, UnitRecord.good]
    by_cases hg : goodRun + 1 < 32
    · simp only [if_pos hg, if_neg (Nat.not_le.mpr hg)]
      rfl
    · simp only [if_neg hg, if_pos (Nat.not_lt.mp hg)]
      rfl
  · rw [if_neg (Nat.one_le_iff_ne_zero.mp h1), if_pos h2]
    have hm : missedOut row { heard with miss := satAdd 15 d miss, goodRun := 0, expected := seq + 1 } = true ↔
        isManager row.role = false ∧ row.loss ≤ min 15 (miss + d) := by simp [missedOut, satAdd]
    exact if_congr hm rfl rfl
  · rw [if_neg (show d ≠ 0 by omega), if_neg (show ¬ d ≤ 32767 by omega)]
    rfl

end Sys2Proof.Machine
end

section
/-! PROOF. O4 and O5: the POWER-ON values, and the laws that they meet. -/

namespace Sys2Proof.Machine

/-- No source feeds a bus by the positions of POWER-ON (R66). -/
theorem powerOn_feedsBy (straps : BitVec 8) (i : Src) (x : Bus) : (Part.powerOn straps).feedsBy i x = false := by
  simp [Part.feedsBy, BreakerRecord.init]

theorem powerOn_feedingAgrees (straps : BitVec 8) : (Part.powerOn straps).feedingAgrees := by
  simp [Part.feedingAgrees, Part.feedBy, Part.domainBy, powerOn_feedsBy, BusRecord.init]

theorem powerOn_channelsSound (straps : BitVec 8) : (Part.powerOn straps).channelsSound := by
  simp [Part.channelsSound, powerOn_channel, ChannelRecord.init]

theorem powerOn_timersAgree (straps : BitVec 8) : (Part.powerOn straps).timersAgree := by
  refine ⟨rfl, rfl, fun x => ?_⟩
  rw [powerOn_stage]
  exact ⟨rfl, rfl, rfl⟩

/-- Settles O4: each value is read off the part that POWER_ON makes. -/
theorem powerOnGivesPowerOnValues : Obligations.PowerOnGivesPowerOnValues := by
  intro straps s
  refine ⟨_, rfl, rfl, ?_, rfl, rfl, fun k => ?_, fun r => ?_, rfl, rfl, fun pt => ?_, fun i => ?_, fun b => ?_,
    fun x => ?_, fun c => ?_, rfl, rfl, rfl, rfl, rfl, rfl, fun g => ?_, fun f => ?_, rfl⟩
  · show within 1 254 straps.toNat = true ↔ _
    simp [within]
  · cases k <;> exact ⟨rfl, rfl⟩
  · exact ⟨congrArg UnitMapRow.role (powerOn_row straps r), congrArg UnitRecord.state (powerOn_unit straps r)⟩
  · exact ⟨congrArg PointRecord.seen (powerOn_point straps pt), congrArg PointRecord.latest (powerOn_point straps pt)⟩
  · exact ⟨congrArg SourceRecord.state (powerOn_source straps i), get_replicate ..,
      congrArg SourceRecord.history (powerOn_source straps i)⟩
  · exact ⟨congrArg BreakerRecord.position (powerOn_breaker straps b),
      congrArg BreakerRecord.failed (powerOn_breaker straps b),
      congrArg BreakerRecord.opCount (powerOn_breaker straps b)⟩
  · cases x <;> exact ⟨rfl, rfl, rfl⟩
  · have h := powerOn_channel straps c
    exact ⟨congrArg ChannelRecord.enable h, congrArg ChannelRecord.mask h, congrArg ChannelRecord.pending h,
      congrArg ChannelRecord.engaged h, congrArg ChannelRecord.tally h,
      (iff_of_eq (congrArg (·.mode = .holdForConfirm) h)).trans (by simp [ChannelRecord.init])⟩
  · have h := powerOn_group straps g
    exact ⟨congrArg GroupRow.demand h, congrArg GroupRow.rank h, congrArg GroupRow.mark h⟩
  · have h := powerOn_condition straps f
    exact ⟨congrArg ConditionRecord.set h, congrArg ConditionRecord.tally h⟩

/-- Settles O5: reset is POWER-ON with the straps of log 1, which meets each law. -/
theorem resetMeetsTheLaws : Obligations.ResetMeetsTheLaws := by
  refine ⟨rfl, ⟨Nat.zero_le _, List.nodup_nil⟩, powerOn_channelsSound _, powerOn_feedingAgrees _, fun i _ _ hi => ?_,
    powerOn_inRange _, fun i => ?_, powerOn_timersAgree _, fun k => ?_, fun i => ?_, Nat.zero_le _, ?_⟩
  · exact absurd (congrArg UnitMapRow.role (powerOn_row _ i)) hi
  · simp [State.reset, SourceRecord.init, Timer.isRunning]
  · simp [State.reset, PortState.init, PortState.sound, PortTallies.zero]
  · simp [State.reset, SourceRecord.init]
  · exact ⟨nofun, fun h => absurd rfl h⟩

end Sys2Proof.Machine
end

section
/-! PROOF. O60: a Status frame is made, placed in both Status slots and taken by the arbiters of ports at rest. -/

namespace Sys2Proof.Machine

/-- The arbiter of a port that was at rest before a Status frame was placed in it (R6, R7). -/
theorem egress_placed_status {p : Part} {k : Port} {q : PortState} (f : StatusFrame) (hq : q.rests = true)
    (h : p.port k = if q.up then { q with status := some f } else q) :
    egress k p = (p.setPort k (q.takeStatus f), []) := by
  by_cases hu : q.up = true
  · rw [if_pos hu] at h
    by_cases hs : q.sending = none
    · obtain ⟨hc, hqu, hre, hst⟩ : q.command = none ∧ q.queue = [] ∧ q.response = none ∧ q.status = none := by
        simpa [PortState.rests, hu, hs, and_assoc] using hq
      simp [egress, h, PortState.takeStatus, PortState.take, hu, hs, hc, hqu, hre, hst]
    · have hb : p.port k = q.takeStatus f := by simp [h, PortState.takeStatus, hu, hs]
      rw [← hb, Part.setPort_self]
      exact egress_of_rests (by simp [h, PortState.rests, Option.isSome_iff_ne_none, hs])
  · have hb : p.port k = q.takeStatus f := by simp [h, PortState.takeStatus, hu]
    rw [← hb, Part.setPort_self]
    exact egress_of_rests (by simp [h, PortState.rests, hu])

theorem placeStatus_eq (f : StatusFrame) (k : Port) (p : Part) :
    placeStatus f k p = p.setPort k (if (p.port k).up then { p.port k with status := some f } else p.port k) := by
  unfold placeStatus
  split
  · rfl
  · exact (p.setPort_self k).symm

/-- The due status timer on ports at rest (R195). -/
theorem drains_statusExpiry {p : Part} (hd : p.management.statusTimer.due = true) (hr : p.linkRests) :
    Drains [.statusExpiry] p p.statusSent 3 := by
  refine drains_cons ?_
  simp only [runTask, statusExpiry, hd, if_true, List.append_nil, placeStatus_eq]
  exact drains_single (egress_placed_status _ (hr .one) rfl)
    (drains_single (egress_placed_status _ (hr .two) rfl) (drains_nil _))

/-- Settles O60: the frame is placed and taken on both ports, or the timer is not due. -/
theorem statusTimerSendsAStatusFrame : Obligations.StatusTimerSendsAStatusFrame := by
  intro s hs
  refine ⟨fun hd => ?_, fun hd hr => ?_⟩
  · have h : runTask .statusExpiry s.part = (s.part, []) := by simp [runTask, statusExpiry, hd]
    exact congrArg Host.Outcome.next (event_eq hs (drains_single h (drains_nil _)) (by decide))
  · exact congrArg Host.Outcome.next (event_eq hs (drains_statusExpiry hd hr) (by decide))

end Sys2Proof.Machine
end

section
/-! PROOF. O20: what an ANNOUNCE of a station that no row binds does. -/

namespace Sys2Proof.Machine

theorem Part.rowOfStation_congr {p q : Part} (h : q.unitMap = p.unitMap) (n : Nat) :
    q.rowOfStation n = p.rowOfStation n := by
  simp only [Part.rowOfStation, Part.row, h]

/-- A station bound in one row only is found there (R11). -/
theorem rowOfStation_eq_some {p : Part} {n : Nat} {r : Fin 32} (hb : rowBound (p.row r) = true)
    (hs : (p.row r).station.val = n)
    (hu : ∀ j, rowBound (p.row j) = true → (p.row j).station.val = n → j = r) : p.rowOfStation n = some r := by
  cases h : p.rowOfStation n with
  | none => exact absurd hs (rowOfStation_none h r hb)
  | some j =>
    obtain ⟨hj, hn⟩ := rowOfStation_some h
    rw [hu j hj hn]

theorem rowOfRole_some {p : Part} {role : Role} {r : Fin 32} (h : p.rowOfRole role = some r) :
    (p.row r).role = role := by
  simpa using List.find?_some h

theorem claimedRole_ne_empty {c : RoleCode} {index : Nat} {role : Role} (h : claimedRole c index = some role) :
    role ≠ .empty := by
  rintro rfl
  cases c <;> simp [claimedRole] at h

/-- The row that an ANNOUNCE claims holds a role (R12). -/
theorem claimed_row_role {p : Part} {c : RoleCode} {index : Nat} {r : Fin 32}
    (h : (claimedRole c index).bind p.rowOfRole = some r) : (p.row r).role ≠ .empty := by
  obtain ⟨role, hc, hr⟩ := Option.bind_eq_some_iff.mp h
  rw [rowOfRole_some hr]
  exact claimedRole_ne_empty hc

theorem Part.setUnit_setUnit (p : Part) (r : Fin 32) (u v : UnitRecord) :
    (p.setUnit r u).setUnit r v = p.setUnit r v := by
  simp [Part.setUnit]

section

variable {p q : Part} {k : Port} {f : AnnounceFrame} {n : Fin 255} (hn : f.station.toNat = n.val) (h1 : 1 ≤ n.val)
include hn h1

/-- An ANNOUNCE that no row can take is counted (R12). -/
theorem announce_unclaimed (hs : p.rowOfStation n.val = none)
    (hc : (claimedRole f.role f.index.toNat).bind p.rowOfRole = none) :
    announce k f p = (p.tally k countUnmapped, []) := by
  have ht : (p.tally k countUnmapped).rowOfStation n.val = none := hs
  simp [announce, hc, hn, h1, n.isLt, ht]

/-- A claim that tells nobody and leaves its station in no row is all that an ANNOUNCE does (R12). -/
theorem announce_unbound {r : Fin 32} (hc : (claimedRole f.role f.index.toNat).bind p.rowOfRole = some r)
    (hq : claimRow k r n p = (q, [])) (hs : q.rowOfStation n.val = none) : announce k f p = (q, []) := by
  simp [announce, hc, hn, h1, n.isLt, hq, hs]

/-- The ANNOUNCE that binds its station is the first frame of the unit (R12, R13). -/
theorem announce_bound {r : Fin 32} (hc : (claimedRole f.role f.index.toNat).bind p.rowOfRole = some r)
    (hq : claimRow k r n p = (p.bind r n, [])) (hs : (p.bind r n).rowOfStation n.val = some r) :
    announce k f p =
      ((p.setRow r { p.row r with station := n }).setUnit r
        { UnitRecord.init with
          state := .active
          expected := f.seq + 1
          last := some p.now
          silence := silenceTimer (p.row r) }, []) := by
  have hrow : (p.bind r n).row r = { p.row r with station := n } := (p.row_setRow r r _).trans (if_pos rfl)
  have hunit : (p.bind r n).unit r = UnitRecord.init := ((p.setRow r _).unit_setUnit r r _).trans (if_pos rfl)
  simp only [announce, hn, h1, n.isLt, true_and, dif_pos, hc, hq, hs, supervise, hrow, hunit, superviseUnit,
    UnitRecord.init, reduceCtorEq, if_false, List.append_nil]
  exact congrArg (·, []) ((p.setRow r _).setUnit_setUnit r _ _)

end

/-- A free row that learns binds a station that no row binds (R12). -/
theorem bind_rowOfStation {p : Part} {r : Fin 32} {n : Fin 255} (h1 : 1 ≤ n.val) (hr : (p.row r).role ≠ .empty)
    (hs : p.rowOfStation n.val = none) : (p.bind r n).rowOfStation n.val = some r := by
  refine rowOfStation_eq_some ?_ (by simp [Part.bind_station]) fun j hj hn => ?_
  · have : n.val ≠ 0 := by omega
    simp [rowBound, Part.bind_station, hr, this]
  · by_contra hne
    rw [Part.bind_station, if_neg hne] at hn
    refine rowOfStation_none hs j ?_ hn
    simpa [rowBound, Part.bind_station, hne] using hj

/-- Settles O20: the claim is judged by the row that holds the role, and a bound row supervises the frame. -/
theorem announceBindsAFreeRow : Obligations.AnnounceBindsAFreeRow := by
  intro s k f n hs hn h1 hfree
  have event {q : Part} (h : announce k f s.part = (q, [])) :
      exec (.announce k f) s = .next { s with part := q } :=
    congrArg Host.Outcome.next (stationEvent_of_drains hs (drains_single h (drains_nil q)) (by decide))
  refine ⟨fun hc => event (announce_unclaimed hn h1 hfree hc), fun r hc => ?_⟩
  have hrole := claimed_row_role hc
  have hne : (s.part.row r).station ≠ n := fun e => by
    refine rowOfStation_none hfree r ?_ (congrArg Fin.val e)
    have : n.val ≠ 0 := by omega
    simp [rowBound, hrole, e, this]
  refine ⟨fun h0 => ?_, fun h0 hl => ?_, fun h0 hl hf => ?_⟩
  · refine event (announce_unbound hn h1 hc (by simp [claimRow, hne, h0]) ?_)
    rw [← hfree]
    exact Part.rowOfStation_congr (Part.unitMap_of_tables (Part.tables_of_base (Part.raiseFlag_stays ..).2)) _
  · exact event (announce_unbound hn h1 hc (by simp [claimRow, hne, h0, hl]) hfree)
  · refine event (announce_bound hn h1 hc ?_ (bind_rowOfStation h1 hrole hfree))
    simp [claimRow, hne, h0, hl, hf, hfree]

end Sys2Proof.Machine
end

section
/-! PROOF. O6: what an unnumbered part does with commands and frames, and how a numbered part takes a frame in. -/

namespace Sys2Proof.Machine

/-! ### An unnumbered part -/

theorem exec_requestCommand (m : Sender) (r : Request) (s : State) :
    exec (requestCommand m r) s = .next (s.requestEvent m r) := by
  cases r <;> rfl

/-- A command of a station begins one hand-off, in a numbered part only (R1). -/
theorem exec_forStation {c : Instr} (h : forStation c = true) :
    ∃ t, ∀ s, exec c s = .next (s.stationEvent t) := by
  cases c
  case powerOn | frameReceived | portUp | portDown | transmitEnd | silenceExpiry | holdoverExpiry | slewInstant
      | pickupExpiry | unplannedParallelExpiry | deadConfirmExpiry | returnTimerExpiry | waitdeadTimeout | dwellExpiry
      | waithealthyTimeout | guardExpiry | syncTimeLimitExpiry | entryDue | operateDeadlineExpiry | frequencyStageExpiry
      | capacityStageExpiry | settleExpiry | staggerExpiry | statusTimerExpiry => cases h
  all_goals exact ⟨_, fun _ => rfl⟩

theorem exec_unnumbered {s : State} (hn : s.part.numbered = false) {c : Instr} (h : forStation c = true) :
    exec c s = .next s := by
  obtain ⟨t, ht⟩ := exec_forStation h
  rw [ht, State.stationEvent, hn]
  rfl

/-- An unnumbered part offers every whole frame to the other port, and counts a short one of its type (R1–R3). -/
theorem receive_unnumbered {p : Part} {k : Port} (hn : p.numbered = false) (hu : (p.port k).up = true)
    (bytes : List Byte) :
    receive k true bytes p = offerForward (otherPort k) bytes
      (if fieldAt bytes 12 2 = some nodestaType ∧ bytes.length < headerLength then p.tally k countFormat else p) := by
  by_cases ht : fieldAt bytes 12 2 = some nodestaType
  · by_cases hl : bytes.length < headerLength
    · simp [receive, hu, receiptOf, ht, hl]
    · simp [receive, hu, receiptOf, ht, hl, hn]
  · simp [receive, hu, receiptOf, ht]

theorem frameReceived_unnumbered {s : State} {k : Port} {bytes : List Byte} (hs : s.calm)
    (hn : s.part.numbered = false) (hu : (s.part.port k).up = true)
    (hr : (s.part.port (otherPort k)).rests = true) :
    let short := fieldAt bytes 12 2 = some nodestaType ∧ bytes.length < headerLength
    let p := if short then s.part.tally k countFormat else s.part
    exec (.frameReceived k true bytes) s =
      .next { s with part := p.setPort (otherPort k) ((p.port (otherPort k)).takeForward bytes) } := by
  intro short p
  have hp : p.port (otherPort k) = s.part.port (otherPort k) := by
    simp only [p]
    split
    · exact s.part.port_setPort_other k _
    · rfl
  obtain ⟨n, hle, hd⟩ := drains_frame_passed (receive_unnumbered hn hu bytes) (by rw [← hr, ← hp])
  exact frameReceived_of_drains hs hd hle

/-! ### A frame that a numbered part hears -/

/-- Hand-offs that have come to an end stay so under a greater bound. -/
theorem drain_add {n : Nat} {ts : List Task} {p : Part} (h : (drain n ts p).2 = []) (m : Nat) :
    drain (n + m) ts p = drain n ts p := by
  induction n generalizing ts p with
  | zero =>
    obtain rfl : ts = [] := h
    simp
  | succ n ih =>
    cases ts with
    | nil => simp
    | cons t ts =>
      rw [Nat.add_right_comm, drain_succ, drain_succ]
      exact ih h

section

variable (p : Part) (k : Port) (bytes : List Byte)

/-- Hearing a frame changes the other port at most (R2). -/
theorem Part.heard_eq : ∃ v, p.heard k bytes = p.setPort (otherPort k) v := by
  unfold Part.heard
  split
  · exact ⟨_, (p.setPort_self _).symm⟩
  · exact ⟨_, rfl⟩

@[simp] theorem Part.heard_numbered : (p.heard k bytes).numbered = p.numbered := by
  obtain ⟨v, h⟩ := p.heard_eq k bytes
  rw [h]
  rfl

@[simp] theorem Part.heard_unitMap : (p.heard k bytes).unitMap = p.unitMap := by
  obtain ⟨v, h⟩ := p.heard_eq k bytes
  rw [h]
  rfl

@[simp] theorem Part.heard_unit (r : Fin 32) : (p.heard k bytes).unit r = p.unit r := by
  obtain ⟨v, h⟩ := p.heard_eq k bytes
  rw [h]
  rfl

@[simp] theorem Part.heard_now : (p.heard k bytes).now = p.now := by
  obtain ⟨v, h⟩ := p.heard_eq k bytes
  rw [h]
  rfl

@[simp] theorem Part.heard_row (r : Fin 32) : (p.heard k bytes).row r = p.row r := by
  simp [Part.row]

end

/-- A frame for a group address is offered to the other port, and then taken in (R2, log 13). -/
theorem receive_group {p : Part} {k : Port} {bytes : List Byte} {h : Header} {b : Body} (hn : p.numbered = true)
    (hu : (p.port k).up = true) (hh : p.hears bytes) (ha : bytes.take 6 ≠ stationAddress p.link.straps)
    (hf : frameOf bytes = some (h, b)) :
    receive k true bytes p = ((offerForward (otherPort k) bytes p).1,
      (offerForward (otherPort k) bytes p).2 ++ [.checked k h b]) := by
  obtain ⟨ht, hl, hs, hgroup⟩ := hh
  have hr : receiptOf p true bytes = .both := by
    rcases hgroup.resolve_left ha with hg | hg <;>
      simp [receiptOf, ht, Nat.not_lt.mpr hl, hn, hs, ha, ← hg]
  simp [receive, hu, hr, takeIn, hf]

/-- A frame that the part hears goes on to be matched to the unit map, two hand-offs later at most (R2, R3). -/
theorem drain_frame_heard {p : Part} {k : Port} {bytes : List Byte} {h : Header} {b : Body} (hn : p.numbered = true)
    (hu : (p.port k).up = true) (hr : (p.port (otherPort k)).rests = true) (hh : p.hears bytes)
    (hf : frameOf bytes = some (h, b)) :
    ∃ j, j ≤ 2 ∧ ∀ n, drain (j + n) [.frame k true bytes] p = drain n [.checked k h b] (p.heard k bytes) := by
  by_cases ha : bytes.take 6 = stationAddress p.link.straps
  · obtain ⟨ht, hl, hs, _⟩ := hh
    refine ⟨1, by omega, fun n => ?_⟩
    rw [Nat.add_comm, drain_succ, runTask, receive_own hu hn ht hl hs ha, takeIn, hf, Part.heard, if_pos ha]
    rfl
  · obtain ⟨i, hi, hd⟩ := drains_offerForward hr bytes
    refine ⟨1 + i, by omega, fun n => ?_⟩
    rw [Nat.add_assoc, Nat.add_comm 1, drain_succ, runTask, receive_group hn hu hh ha hf, Part.heard, if_neg ha,
      List.append_nil]
    exact hd n _

/-- A frame of a bound station that is no ANNOUNCE is supervised, and told to its owner if it passes (R11). -/
theorem mapFrame_bound {p : Part} {h : Header} {b : Body} {r : Fin 32}
    (hr : p.rowOfStation h.station.toNat = some r) (hb : ∀ role index, b ≠ .announce role index) (k : Port) :
    let u := superviseUnit (p.row r) (p.unit r) h.seq p.now
    let told := if u.2 = .lost then lostTasks (p.row r).role else []
    mapFrame k h b p =
      match ownerTask h.station (p.row r).role b with
      | some t => (p.setUnit r u.1, told ++ if u.2 == .passed then [t] else [])
      | none => ((p.setUnit r u.1).tally k countFormat, told) := by
  cases b
  case announce role index => exact absurd rfl (hb role index)
  all_goals
    simp only [mapFrame, hr, supervise]
    rfl

/-- The owner's command of a frame begins with the hand-off of the frame to its owner (R11). -/
theorem ownerTask_of_ownerCommand {station : BitVec 8} {role : Role} {b : Body} :
    (ownerCommand station role b = none ∧ ownerTask station role b = none) ∨
      ∃ c τ, ownerCommand station role b = some c ∧ ownerTask station role b = some τ ∧
        ∀ s, exec c s = .next (s.stationEvent τ) := by
  cases b with
  | reading b =>
    cases role
    case point => exact .inr ⟨_, _, rfl, rfl, fun _ => rfl⟩
    all_goals exact .inl ⟨rfl, rfl⟩
  | state b =>
    cases role
    case breaker => exact .inr ⟨_, _, rfl, rfl, fun _ => rfl⟩
    all_goals exact .inl ⟨rfl, rfl⟩
  | genstat b =>
    cases role
    case genctl => exact .inr ⟨_, _, rfl, rfl, fun _ => rfl⟩
    all_goals exact .inl ⟨rfl, rfl⟩
  | time t =>
    cases role
    case timeMaster => exact .inr ⟨_, _, rfl, rfl, fun _ => rfl⟩
    all_goals exact .inl ⟨rfl, rfl⟩
  | announce => exact .inl ⟨rfl, rfl⟩
  | request tag name arguments =>
    refine .inr ?_
    cases role
    case manager => exact ⟨_, _, rfl, rfl, exec_requestCommand _ _⟩
    all_goals exact ⟨_, _, rfl, rfl, fun _ => rfl⟩

section

variable {s : State} {k : Port} {bytes : List Byte} {h : Header} {b : Body} {q : Part} {ts : List Task}
  (hs : s.serves) (hu : (s.part.port k).up = true) (hr : (s.part.port (otherPort k)).rests = true)
  (hh : s.part.hears bytes) (hf : frameOf bytes = some (h, b))
  (hm : mapFrame k h b (s.part.heard k bytes) = (q, ts))
include hs hu hr hh hf hm

/-- The event of a frame that the part hears is what its match to the unit map leads to (R2, R3, R11). -/
theorem frameReceived_heard : ∃ j, j ≤ 3 ∧
    exec (.frameReceived k true bytes) s =
      .next { s with
        part := (drain (Config.eventBound - j) ts q).1
        work := (drain (Config.eventBound - j) ts q).2 } := by
  obtain ⟨hw, hn⟩ := hs
  obtain ⟨j, hj, hd⟩ := drain_frame_heard hn hu hr hh hf
  have hb : Config.eventBound = j + (Config.eventBound - (j + 1) + 1) := by
    have : 3 ≤ Config.eventBound := by decide
    omega
  have hrun : drain Config.eventBound [.frame k true bytes] s.part = drain (Config.eventBound - (j + 1)) ts q := by
    rw [hb, hd, drain_succ, runTask, hm, List.append_nil, ← hb]
  refine ⟨j + 1, by omega, ?_⟩
  rw [← hrun]
  show Host.Outcome.next (s.drained _) = _
  rw [State.drained, hw]
  rfl

/-- The same where what the match hands off comes to an end. -/
theorem frameReceived_heard_ended (he : (drain (Config.eventBound - 3) ts q).2 = []) :
    exec (.frameReceived k true bytes) s = .next { s with part := (drain (Config.eventBound - 3) ts q).1 } := by
  obtain ⟨j, hj, hx⟩ := frameReceived_heard hs hu hr hh hf hm
  have hb : Config.eventBound - j = Config.eventBound - 3 + (3 - j) := by
    have : 3 ≤ Config.eventBound := by decide
    omega
  rw [hx, hb, drain_add he, he, ← hs.1]

/-- A frame that hands off one task has the effect of the command that begins with that task. -/
theorem frameReceived_heard_command {c : Instr} {τ : Task} (hts : ts = [τ]) (hq : q.numbered = true)
    (hc : ∀ s, exec c s = .next (s.stationEvent τ)) (he : (drain (Config.eventBound - 3) [τ] q).2 = []) :
    exec (.frameReceived k true bytes) s = exec c { s with part := q } := by
  subst hts
  have hb : drain Config.eventBound [τ] q = drain (Config.eventBound - 3) [τ] q := drain_add he 3
  rw [frameReceived_heard_ended hs hu hr hh hf hm he, hc, State.stationEvent]
  simp only [hq, if_true, State.event, State.drained, hs.1, List.nil_append, hb, he]

end

section

variable {s : State} {k : Port} {bytes : List Byte} {h : Header} {b : Body} {q : Part}
  (hs : s.serves) (hu : (s.part.port k).up = true) (hr : (s.part.port (otherPort k)).rests = true)
  (hh : s.part.hears bytes) (hf : frameOf bytes = some (h, b))
include hs hu hr hh hf

/-- A frame that goes no further than its match changes what the match does. -/
theorem frameReceived_heard_only (hm : mapFrame k h b (s.part.heard k bytes) = (q, [])) :
    exec (.frameReceived k true bytes) s = .next { s with part := q } := by
  have hx := frameReceived_heard_ended hs hu hr hh hf hm
  simp only [drain_nil, true_implies] at hx
  exact hx

/-- A frame that loses its unit leaves the unit records and the unit map as its match leaves them (R15). -/
theorem frameReceived_heard_lost {role : Role}
    (hm : mapFrame k h b (s.part.heard k bytes) = (q, lostTasks role)) :
    ∃ t, exec (.frameReceived k true bytes) s = .next t ∧ t.part.units = q.units ∧ t.part.unitMap = q.unitMap := by
  obtain ⟨j, _, hx⟩ := frameReceived_heard hs hu hr hh hf hm
  have hbase := drain_base (ts := lostTasks role) rfl (Config.eventBound - j) q
  exact ⟨_, hx, Part.units_of_base hbase, Part.unitMap_of_tables (Part.tables_of_base hbase)⟩

end

/-- Settles O6: an unnumbered part forwards; a numbered one matches what it hears to the unit map and supervises it. -/
theorem onlyNumberedPartsTakeFramesIn : Obligations.OnlyNumberedPartsTakeFramesIn := by
  refine ⟨fun s hn => ⟨fun c hc => exec_unnumbered hn hc, fun k bytes hs hu hr => frameReceived_unnumbered hs hn hu hr⟩,
    fun s k bytes h b hs hu hr hh hf => ?_, superviseUnit_active⟩
  have hnum : (s.part.heard k bytes).numbered = true := (s.part.heard_numbered k bytes).trans hs.2
  refine ⟨?_, fun r hrow hb => ?_⟩
  · rintro role index rfl f he
    exact frameReceived_heard_command (c := .announce k f) hs hu hr hh hf rfl rfl hnum (fun _ => rfl) he
  have hm := mapFrame_bound (p := s.part.heard k bytes)
    ((Part.rowOfStation_congr (s.part.heard_unitMap k bytes) _).trans hrow) hb k
  simp only [Part.heard_row, Part.heard_unit, Part.heard_now] at hm
  generalize superviseUnit (s.part.row r) (s.part.unit r) h.seq s.part.now = u at hm ⊢
  dsimp only
  have hmap : ((s.part.heard k bytes).setUnit r u.1).unitMap = s.part.unitMap := s.part.heard_unitMap k bytes
  rcases ownerTask_of_ownerCommand (station := h.station) (role := (s.part.row r).role) (b := b) with
    ⟨hc, ht⟩ | ⟨c, τ, hc, ht, hexec⟩
  · simp only [ht] at hm
    refine ⟨fun _ hl => ?_, fun ho => ?_, fun hl => ?_, fun c τ ho => ?_⟩
    · exact frameReceived_heard_only hs hu hr hh hf (hm.trans (by rw [if_neg hl]))
    · simp [hc] at ho
    · obtain ⟨t, hx, hunits, hrows⟩ := frameReceived_heard_lost hs hu hr hh hf (hm.trans (by rw [if_pos hl]))
      exact ⟨t, hx, hunits, hrows.trans hmap⟩
    · simp [hc] at ho
  · simp only [ht] at hm
    refine ⟨fun ho => ?_, fun _ hd => ?_, fun hl => ?_, fun c' τ' ho hp hτ he => ?_⟩
    · simp [hc] at ho
    · exact frameReceived_heard_only hs hu hr hh hf (hm.trans (by simp [hd]))
    · obtain ⟨t, hx, hunits, hrows⟩ := frameReceived_heard_lost (role := (s.part.row r).role) hs hu hr hh hf
        (hm.trans (congrArg (Prod.mk _) (by simp [hl])))
      exact ⟨t, hx, hunits, hrows.trans hmap⟩
    · obtain rfl : c = c' := Option.some.inj (hc.symm.trans ho)
      obtain rfl : τ = τ' := Option.some.inj (ht.symm.trans hτ)
      exact frameReceived_heard_command hs hu hr hh hf hm (by simp [hp]) hnum hexec he

end Sys2Proof.Machine
end

section
/-! PROOF. O40: RESTART is refused under a guard, and else answered and carried out. -/

namespace Sys2Proof.Machine

/-! ### Setting the flags whose standing causes hold (R191) -/

namespace Part.sameButConditions

variable {p q r : Part}

theorem refl (p : Part) : p.sameButConditions p := rfl

theorem trans (h : p.sameButConditions q) (h' : q.sameButConditions r) : p.sameButConditions r := by
  unfold Part.sameButConditions at *
  rw [h', h]

/-- No standing cause rests on a flag (R191, R192). -/
theorem standing (h : p.sameButConditions q) (f : Flag) : q.standing f = p.standing f := by
  refine (congrArg (·.standing f) h).trans ?_
  cases f <;> rfl

end Part.sameButConditions

theorem Part.sameButConditions_setIfStanding (p : Part) (f : Flag) : p.sameButConditions (p.setIfStanding f) := by
  unfold Part.setIfStanding Part.raiseFlag
  dsimp only
  split
  · split <;> rfl
  · rfl

theorem Part.setIfStanding_set (p : Part) (f g : Flag) :
    ((p.setIfStanding f).condition g).set = ((p.condition g).set || (decide (g = f) && p.standing f)) := by
  unfold Part.setIfStanding Part.raiseFlag
  by_cases hs : p.standing f = true
  · by_cases hc : (p.condition f).set = true
    · by_cases e : g = f <;> simp [hs, hc, e]
    · by_cases e : g = f <;> simp [hs, hc, e, Part.condition_setCondition]
  · simp [hs]

/-- The flags of a list are set where their causes stand; nothing else changes. -/
theorem setStandings_set (fs : List Flag) (p : Part) :
    p.sameButConditions (fs.foldl (fun q f => q.setIfStanding f) p) ∧
      ∀ g, ((fs.foldl (fun q f => q.setIfStanding f) p).condition g).set =
        ((p.condition g).set || (decide (g ∈ fs) && p.standing g)) := by
  induction fs generalizing p with
  | nil => simp [Part.sameButConditions.refl]
  | cons f fs ih =>
    have hf := p.sameButConditions_setIfStanding f
    obtain ⟨hsame, hset⟩ := ih (p.setIfStanding f)
    refine ⟨hf.trans hsame, fun g => ?_⟩
    rw [List.foldl_cons, hset, hf.standing, p.setIfStanding_set]
    by_cases e : g = f
    · subst e
      cases (p.condition g).set <;> cases p.standing g <;> simp
    · simp [e]

theorem mem_allFlags (f : Flag) : f ∈ allFlags := by cases f <;> decide

/-- After the RESTART values are taken, a flag is set where its cause stands (R191, R196). -/
theorem restart_same (p : Part) :
    p.restarted.sameButConditions (restart p).1 ∧ ∀ f, ((restart p).1.condition f).set = (restart p).1.standing f := by
  obtain ⟨hsame, hset⟩ := setStandings_set allFlags p.restarted
  have hr : (restart p).1 = allFlags.foldl (fun q f => q.setIfStanding f) p.restarted := by rw [restart]
  rw [← hr] at hsame hset
  refine ⟨hsame, fun f => ?_⟩
  have hclear : (p.restarted.condition f).set = false := by
    simp [Part.condition, Part.restarted, restartManagement, get_mapAll]
  rw [hset, hsame.standing, hclear]
  simp [mem_allFlags]

/-! ### What the RESTART values keep (R196) -/

section

variable (p : Part)

theorem Part.restarted_unit (r : Fin 32) : p.restarted.unit r = UnitRecord.init := get_replicate ..

theorem Part.restarted_point (pt : Point) : p.restarted.point pt = restartPoint (p.point pt) := get_mapAll ..

theorem Part.restarted_source (i : Src) : p.restarted.source i = restartSource (p.kind i) (p.source i) :=
  get_mapIndexed ..

theorem Part.restarted_breaker (b : Breaker) : p.restarted.breaker b = restartBreaker (p.breaker b) := get_mapAll ..

theorem Part.restarted_bus (x : Bus) : p.restarted.bus x = restartBus (p.bus x) := by cases x <;> rfl

theorem Part.restarted_channel (c : Channel) : p.restarted.channel c = restartChannel (p.channel c) := get_mapAll ..

end

theorem restartSource_dips (k : SourceKind) (q : SourceRecord) : (restartSource k q).dips = q.dips := by
  simp only [restartSource, SourceRecord.leave, SourceRecord.abandon, SourceRecord.endExcursion]
  split <;> rfl

/-- An accepted RESTART is answered first, and then every block takes its RESTART values (R196). -/
theorem restart_event {s : State} (hs : s.serves) (hr : s.part.linkRests) (hg : s.part.guard.state = .absent)
    (m : Sender) :
    exec (.restart m) s = .next { s with part := (restart (s.part.onlyAnswers m .done [])).1 } := by
  have hc : carryOut m .restart s.part.countRequest = (s.part.countRequest, [.respond m .done [], .restart]) := by
    simp [carryOut, requestRestart, Part.guardRuns, Part.countRequest, hg]
  have hd : Drains [.restart] (s.part.onlyAnswers m .done []) (restart (s.part.onlyAnswers m .done [])).1 1 := by
    refine drains_single ?_ (drains_nil _)
    rw [runTask, restart]
  refine congrArg Host.Outcome.next (requestEvent_of_drains (r := .restart) hs (n := 3 + 1) ?_ (by decide))
  rw [hc]
  exact drains_append (drains_respond (Part.countRequest_rests hr) m .done []) hd

/-- Settles O40: what RESTART keeps and resets is read off the part before its standing flags are set. -/
theorem restartGivesRestartValues : Obligations.RestartGivesRestartValues := by
  intro m s hs hr
  refine ⟨fun hg => ?_, fun hg => ?_⟩
  · have hc : carryOut m .restart s.part.countRequest =
        (s.part.countRequest, [.respond m (.refused .guard) []]) := by
      simp [carryOut, requestRestart, Part.guardRuns, Part.countRequest, hg, refused]
    exact congrArg Host.Outcome.next (requestEvent_of_answer hs (Part.countRequest_rests hr) hc)
  · refine ⟨_, restart_event hs hr hg m, hs.1, rfl, ?_⟩
    obtain ⟨hsame, hset⟩ := restart_same (s.part.onlyAnswers m .done [])
    generalize (restart (s.part.onlyAnswers m .done [])).1 = q at hsame hset
    refine ⟨hsame, congrArg (·.unitMap) hsame, congrArg (·.topology) hsame, congrArg (·.templates) hsame,
      congrArg (·.link.straps) hsame, congrArg (·.time.settings) hsame, congrArg (·.management.faults) hsame,
      fun i => ?_, fun x => ?_, fun b => ?_, fun pt => ?_, fun r => ?_, fun c => ?_, congrArg (·.arbiter.mode) hsame,
      congrArg (·.arbiter.runOut) hsame, congrArg (·.exec.state) hsame, congrArg (·.currentPlan) hsame,
      congrArg (·.attempt) hsame, congrArg (·.schedule.entries) hsame, hset⟩
    · have h := (congrArg (·.source i) hsame).trans (Part.restarted_source _ i)
      exact (congrArg SourceRecord.dips h).trans (restartSource_dips ..)
    · have h := (congrArg (·.bus x) hsame).trans (Part.restarted_bus _ x)
      exact ⟨(congrArg BusRecord.lockout h).trans rfl, congrArg BusRecord.feed h⟩
    · have h := (congrArg (·.breaker b) hsame).trans (Part.restarted_breaker _ b)
      exact ⟨congrArg BreakerRecord.position h, (congrArg BreakerRecord.opCount h).trans rfl⟩
    · exact congrArg PointRecord.seen ((congrArg (·.point pt) hsame).trans (Part.restarted_point _ pt))
    · exact (congrArg (·.unit r) hsame).trans ((s.part.onlyAnswers m .done []).restarted_unit r)
    · have h := (congrArg (·.channel c) hsame).trans (Part.restarted_channel _ c)
      exact ⟨congrArg ChannelRecord.pending h, congrArg ChannelRecord.engaged h,
        (congrArg ChannelRecord.enable h).trans rfl⟩

end Sys2Proof.Machine
end

section
/-! PROOF. O35: a write that passes its tests lays its rows over its table and is answered. -/

namespace Sys2Proof.Machine

/-! ### Ports at rest stay at rest -/

theorem Part.linkRests_of_ports {p q : Part} (h : q.link.ports = p.link.ports) (hp : p.linkRests) : q.linkRests := by
  simpa only [Part.linkRests, Part.port, h] using hp

theorem Part.linkRests_tally {p : Part} (hp : p.linkRests) (k : Port) (f : PortTallies → PortTallies) :
    (p.tally k f).linkRests := by
  intro j
  refine Eq.trans ?_ (hp j)
  cases k <;> cases j <;> rfl

theorem clearTallies_linkRests {p : Part} (hp : p.linkRests) (first count : Nat) :
    (clearTallies first count p).linkRests := by
  unfold clearTallies
  dsimp only
  split <;> split
  · exact Part.linkRests_tally (Part.linkRests_tally hp _ _) _ _
  · exact Part.linkRests_tally hp _ _
  · exact Part.linkRests_tally hp _ _
  · exact hp

/-- A row of WRITE_ROWS leaves the ports, the entries and the copies taken back as they are. -/
theorem applyLives_keeps (ks : List LiveRow) (row : Nat) (p : Part) :
    (applyLives ks row p).link.ports = p.link.ports ∧
      (applyLives ks row p).schedule.entries = p.schedule.entries ∧
      (applyLives ks row p).schedule.held = p.schedule.held := by
  induction ks generalizing row p with
  | nil => exact ⟨rfl, rfl, rfl⟩
  | cons k ks ih =>
    obtain ⟨hl, he, hh⟩ := ih (row + 1) (applyLive row k p)
    have hk : (applyLive row k p).link.ports = p.link.ports ∧
        (applyLive row k p).schedule.entries = p.schedule.entries ∧
        (applyLive row k p).schedule.held = p.schedule.held := by
      cases k
      case point =>
        unfold applyLive
        dsimp only
        split <;> exact ⟨rfl, rfl, rfl⟩
      all_goals exact ⟨rfl, rfl, rfl⟩
    obtain ⟨hl', he', hh'⟩ := hk
    exact ⟨hl.trans hl', he.trans he', hh.trans hh'⟩

/-! ### Service limits judged at once (R62, R63) -/

theorem Part.raiseFlag_serviceDueAt (p : Part) (f : Flag) (b : Breaker) :
    (p.raiseFlag f).serviceDueAt b = p.serviceDueAt b := by
  unfold Part.raiseFlag
  dsimp only
  split <;> rfl

theorem Part.raiseFlag_raiseFlag (p : Part) (f : Flag) : (p.raiseFlag f).raiseFlag f = p.raiseFlag f := by
  have h : ((p.raiseFlag f).condition f).set = true := by
    unfold Part.raiseFlag
    dsimp only
    split
    · assumption
    · rw [Part.condition_setCondition, if_pos rfl]
  rw [Part.raiseFlag, if_pos h]

/-- Judging breakers in turn sets SERVICE_DUE where one of them is due. -/
theorem judgeServices_eq (bs : List Breaker) (p : Part) :
    bs.foldl (fun q b => q.judgeService b) p = if bs.any p.serviceDueAt then p.raiseFlag .serviceDue else p := by
  induction bs generalizing p with
  | nil => rfl
  | cons b bs ih =>
    rw [List.foldl_cons, ih, Part.judgeService]
    by_cases hb : p.serviceDueAt b = true
    · have he : (p.raiseFlag .serviceDue).serviceDueAt = p.serviceDueAt := funext (p.raiseFlag_serviceDueAt _)
      simp [hb, he, Part.raiseFlag_raiseFlag]
    · simp [hb]

/-! ### An applied write -/

/-- A write that passes its tests is applied, and answered after its effects (R189). -/
theorem writeWith_applied {α : Type} {m : Sender} {table first count : Nat} {p : Part} {rows : Judged (List α)}
    {whole : List α → Option RefusedReason} {apply : List α → Res} {ks : List α} {refs : List FieldRef}
    (ht : p.writeRefusal table first count = none) (hj : rows = .ok (ks, refs)) (hw : whole ks = none) :
    writeWith m table first count p rows whole apply =
      ((apply ks).1, (apply ks).2 ++ [.respond m (appliedAnswer refs) []]) := by
  simp [writeWith, ht, hj, hw]

/-- Settles O35: each write is applied, and no effect but its answer is left to do. -/
theorem writesReplaceTheirRows : Obligations.WritesReplaceTheirRows := by
  intro m s first refs hs hr p a
  have hp (table count : Nat) : p.writeRefusal table first count = s.part.writeRefusal table first count := rfl
  refine ⟨fun rows ts ht hj => ?_, fun rows ls ht hj => ?_, fun rows ks ht hj => ?_, fun rows ts ht hj => ?_,
    fun table rows ks ht hj he => ?_⟩
  · have hc : carryOut m (.writeTemplates first rows) p =
        ({ p with templates := overlay (fun _ r => r) ts (first - 1) p.templates }, [.respond m a []]) := by
      rw [carryOut, writeTemplates, writeWith_applied ((hp _ _).trans ht) hj rfl, List.nil_append]
    exact congrArg Host.Outcome.next (requestEvent_of_answer hs hr hc)
  · have hc : carryOut m (.writeCandidateLists first rows) p =
        ({ p with candidates := overlay (fun _ r => r) ls (first - 1) p.candidates }, [.respond m a []]) := by
      rw [carryOut, writeCandidateLists, writeWith_applied ((hp _ _).trans ht) hj rfl, List.nil_append]
    exact congrArg Host.Outcome.next (requestEvent_of_answer hs hr hc)
  · intro q due
    have hq : (if due then q.raiseFlag .serviceDue else q).linkRests := by
      refine Part.linkRests_of_ports (p := q) ?_ hr
      split
      · exact congrArg LinkState.ports (q.raiseFlag_stays _).1
      · rfl
    have hc : carryOut m (.writeBreakerSettings first rows) p =
        (if due then q.raiseFlag .serviceDue else q, [.respond m a []]) := by
      rw [carryOut, writeBreakerSettings, writeWith_applied ((hp _ _).trans ht) hj rfl, List.nil_append]
      refine congrArg (·, [Task.respond m a []]) ((judgeServices_eq _ q).trans ?_)
      rw [List.any_filter]
    exact congrArg Host.Outcome.next (requestEvent_of_answer hs hq hc)
  · have hc : carryOut m (.clearPortTallies first rows) p =
        (clearTallies first ts.length p, [.respond m a []]) := by
      rw [carryOut, writePortTallies, writeWith_applied ((hp _ _).trans ht) hj rfl, List.nil_append]
    exact congrArg Host.Outcome.next
      (requestEvent_of_answer hs (clearTallies_linkRests (Part.countRequest_rests hr) _ _) hc)
  · obtain ⟨hports, hentries, hheld⟩ := applyLives_keeps ks first p
    have hrest : (applyLives ks first p).linkRests := Part.linkRests_of_ports hports hr
    have hempty : (applyLives ks first p).scheduleEmpty := ⟨hentries.trans he.1, hheld.trans he.2⟩
    have hc : carryOut m (.writeRows table first rows) p =
        (applyLives ks first p, (if table = 12 then [.handOver] else []) ++ [.respond m a []]) := by
      rw [carryOut, writeRows, writeWith_applied ((hp _ _).trans ht) hj rfl]
    have hold : ∃ n, n ≤ 1 ∧
        Drains (if table = 12 then [.handOver] else []) (applyLives ks first p) (applyLives ks first p) n := by
      split
      · exact ⟨1, le_rfl, drains_handOver_empty hempty⟩
      · exact ⟨0, by omega, drains_nil _⟩
    obtain ⟨n, hn, hd⟩ := hold
    refine congrArg Host.Outcome.next (requestEvent_of_drains (n := n + 3) hs ?_ ?_)
    · rw [hc]
      exact drains_append hd (drains_respond hrest m a [])
    · have : 5 < Config.eventBound := by decide
      omega

end Sys2Proof.Machine
end

section
/-! PROOF. O37: a write of the unit map lays its rows over the map and renews the records of changed bindings. -/

namespace Sys2Proof.Machine

/-! ### The rows of a unit map write in turn -/

theorem rewriteUnit_changed {old new : UnitMapRow} (hb : rowBound old = true)
    (h : new.station ≠ old.station ∨ new.role ≠ old.role) (u : UnitRecord) :
    (rewriteUnit old new u).1 = UnitRecord.init := by
  have hd : (old.station != new.station || old.role != new.role) = true := by
    rcases h with h | h <;> simp [h.symm]
  simp [rewriteUnit, hb, hd]

/-- A fresh unit record stays as it is, and nobody is told (R10, R17). -/
theorem rewriteUnit_init (old new : UnitMapRow) : rewriteUnit old new UnitRecord.init = (UnitRecord.init, []) := by
  unfold rewriteUnit
  split
  · rfl
  · split <;> rfl

theorem rewriteUnit_reacts (old new : UnitMapRow) (u : UnitRecord) :
    (rewriteUnit old new u).2.all Task.reacts = true := by
  unfold rewriteUnit goneTasks
  split
  · split <;> rfl
  · split
    · split <;> rfl
    · rfl

theorem applyMap_reacts (ks : List UnitMapRow) (i : Nat) (p : Part) : (applyMap ks i p).2.all Task.reacts = true := by
  induction ks generalizing i p with
  | nil => rfl
  | cons k ks ih =>
    rw [applyMap]
    split
    · simp [rewriteUnit_reacts, ih]
    · rfl

/-- Rows before the first one written keep their binding and their unit. -/
theorem applyMap_before (ks : List UnitMapRow) (i : Nat) (p : Part) {r : Fin 32} (h : r.val < i) :
    (applyMap ks i p).1.row r = p.row r ∧ (applyMap ks i p).1.unit r = p.unit r := by
  induction ks generalizing i p with
  | nil => exact ⟨rfl, rfl⟩
  | cons k ks ih =>
    rw [applyMap]
    split
    · next hi =>
      have hne : r ≠ ⟨i, hi⟩ := fun e => by simp [e] at h
      obtain ⟨hrow, hunit⟩ := ih (i + 1) ((p.setRow ⟨i, hi⟩ k).setUnit ⟨i, hi⟩ _) (by omega)
      exact ⟨hrow.trans ((p.row_setRow ..).trans (if_neg hne)),
        hunit.trans ((Part.unit_setUnit ..).trans (if_neg hne))⟩
    · exact ⟨rfl, rfl⟩

/-- A bound row whose binding a write changes has a fresh unit record (R10, R13). -/
theorem applyMap_changed (ks : List UnitMapRow) (i : Nat) (p : Part) {r : Fin 32} (hb : rowBound (p.row r) = true)
    (hd : ((applyMap ks i p).1.row r).station ≠ (p.row r).station ∨
      ((applyMap ks i p).1.row r).role ≠ (p.row r).role) :
    (applyMap ks i p).1.unit r = UnitRecord.init := by
  induction ks generalizing i p with
  | nil => simp [applyMap] at hd
  | cons k ks ih =>
    rw [applyMap] at hd ⊢
    by_cases hi : i < 32
    · simp only [dif_pos hi] at hd ⊢
      by_cases e : r = ⟨i, hi⟩
      · subst e
        obtain ⟨hrow, hunit⟩ := applyMap_before ks (i + 1)
          ((p.setRow ⟨i, hi⟩ k).setUnit ⟨i, hi⟩ (rewriteUnit (p.row ⟨i, hi⟩) k (p.unit ⟨i, hi⟩)).1)
          (r := ⟨i, hi⟩) (Nat.lt_succ_self i)
        have hk : (applyMap ks (i + 1) _).1.row ⟨i, hi⟩ = k := hrow.trans ((p.row_setRow ..).trans (if_pos rfl))
        rw [hk] at hd
        exact hunit.trans (((p.setRow _ k).unit_setUnit ..).trans (if_pos rfl)) |>.trans (rewriteUnit_changed hb hd _)
      · have hrow (u : UnitRecord) : ((p.setRow ⟨i, hi⟩ k).setUnit ⟨i, hi⟩ u).row r = p.row r :=
          (p.row_setRow ..).trans (if_neg e)
        exact ih _ _ (by rwa [hrow]) (by rwa [hrow])
    · simp [hi] at hd

theorem Part.setUnit_self (p : Part) (r : Fin 32) : p.setUnit r (p.unit r) = p := by
  simp [Part.setUnit, Part.unit, Vector.get_eq_getElem]

/-- With every unit record fresh a write of the unit map replaces its rows only, and nobody is told (R10, R17). -/
theorem applyMap_fresh (ks : List UnitMapRow) (i : Nat) (p : Part) (h : ∀ r, p.unit r = UnitRecord.init) :
    applyMap ks i p = ({ p with unitMap := overlay (fun _ r => r) ks i p.unitMap }, []) := by
  induction ks generalizing i p with
  | nil => rfl
  | cons k ks ih =>
    rw [applyMap, overlay]
    split
    · next hi =>
      have hu : (p.setRow ⟨i, hi⟩ k).setUnit ⟨i, hi⟩ UnitRecord.init = p.setRow ⟨i, hi⟩ k := by
        rw [← h ⟨i, hi⟩]
        exact (p.setRow _ k).setUnit_self _
      simp only [h, rewriteUnit_init, hu, List.nil_append]
      rw [ih _ (p.setRow _ k) h]
      rfl
    · next hi => rw [overlay_past _ ks p.unitMap (by omega)]

/-! ### The request -/

/-- A write that the test of its whole table refuses changes nothing (R189). -/
theorem writeWith_refused {α : Type} {m : Sender} {table first count : Nat} {p : Part} {rows : Judged (List α)}
    {whole : List α → Option RefusedReason} {apply : List α → Res} {ks : List α} {refs : List FieldRef}
    {why : RefusedReason} (ht : p.writeRefusal table first count = none) (hj : rows = .ok (ks, refs))
    (hw : whole ks = some why) : writeWith m table first count p rows whole apply = refused m why p := by
  simp [writeWith, ht, hj, hw]

/-- What an event's first hand-off hands off is worked through within the bound. -/
theorem event_eq_drain {s : State} (hs : s.calm) (t : Task) :
    ∃ n w, s.event t = { s with part := (drain n (runTask t s.part).2 (runTask t s.part).1).1, work := w } := by
  have hw : s.work = [] := hs
  have hb : Config.eventBound = 4095 + 1 := rfl
  refine ⟨4095, (drain Config.eventBound [t] s.part).2, ?_⟩
  rw [State.event, State.drained, hw, List.nil_append, hb, drain_succ, List.append_nil]

theorem requestEvent_eq_drain {s : State} (hs : s.serves) (m : Sender) (r : Request) :
    ∃ n w, s.requestEvent m r =
      { s with
        part := (drain n (carryOut m r s.part.countRequest).2 (carryOut m r s.part.countRequest).1).1
        work := w } := by
  rw [State.requestEvent, State.stationEvent, if_pos hs.2]
  exact event_eq_drain hs.1 (.request m r)

/-- Settles O37: the rows are laid over the map first, and no reaction after it touches the map or a unit record. -/
theorem unitMapWritesReplaceTheirRows : Obligations.UnitMapWritesReplaceTheirRows := by
  intro m s first rows ks refs hs hr ht hj new
  have ht' : s.part.countRequest.writeRefusal 1 first rows.length = none := ht
  refine ⟨fun why hw => ?_, fun hw => ⟨?_, fun hfresh => ?_⟩⟩
  · have hc : carryOut m (.writeUnitMap first rows) s.part.countRequest =
        (s.part.countRequest, [.respond m (.refused why) []]) := by
      rw [carryOut, writeUnitMap, writeWith_refused ht' hj hw, refused]
    exact congrArg Host.Outcome.next (requestEvent_of_answer hs (Part.countRequest_rests hr) hc)
  · have hc : carryOut m (.writeUnitMap first rows) s.part.countRequest =
        ((applyMap ks (first - 1) s.part.countRequest).1,
          (applyMap ks (first - 1) s.part.countRequest).2 ++ [.respond m (appliedAnswer refs) []]) := by
      rw [carryOut, writeUnitMap, writeWith_applied ht' hj hw]
    obtain ⟨n, w, he⟩ := requestEvent_eq_drain hs m (.writeUnitMap first rows)
    rw [hc] at he
    have hbase := drain_base (ts := (applyMap ks (first - 1) s.part.countRequest).2 ++
      [.respond m (appliedAnswer refs) []]) (by simp [applyMap_reacts, Task.reacts]) n
      (applyMap ks (first - 1) s.part.countRequest).1
    have hmap : (applyMap ks (first - 1) s.part.countRequest).1.unitMap = new := applyMap_unitMap ..
    refine ⟨_, congrArg Host.Outcome.next he, ?_, fun r hb hd => ?_⟩
    · exact (Part.unitMap_of_tables (Part.tables_of_base hbase)).trans hmap
    · refine (congrArg (·.get r) (Part.units_of_base hbase)).trans (applyMap_changed ks (first - 1) _ hb ?_)
      rw [Part.row, hmap]
      exact hd
  · have hnew := applyMap_fresh ks (first - 1) s.part.countRequest hfresh
    have hc : carryOut m (.writeUnitMap first rows) s.part.countRequest =
        ({ s.part.countRequest with unitMap := new }, [.respond m (appliedAnswer refs) []]) := by
      rw [carryOut, writeUnitMap, writeWith_applied ht' hj hw, hnew]
      rfl
    exact congrArg Host.Outcome.next (requestEvent_of_answer hs (Part.countRequest_rests hr) hc)

end Sys2Proof.Machine
end

section
/-! PROOF. O21: what the expiry of a silence timer does to the unit, to the owner of its role, and to the figures of
the sources that feed a CLOSED feeder. -/

namespace Sys2Proof.Machine

/-! ### Feeding recomputed after a feeder drops out -/

@[simp] theorem BusRecord.takeFeed_feed (r : BusRecord) (g : Bool) (f : FeedState) : (r.takeFeed g f).feed = f := by
  unfold BusRecord.takeFeed
  split
  · split <;> rfl
  · rfl

/-- Recomputing feeding replaces the fed domains and the bus records, with the feed states of the positions (R66). -/
theorem Part.recomputeFeeding_eq (p : Part) :
    ∃ v : PerBus BusRecord, (∀ x, (v.get x).feed = p.feedBy x) ∧
      p.recomputeFeeding =
        { p with fedDomains := mapIndexed (fun i _ => p.domainBy i) p.fedDomains, buses := v } := by
  refine ⟨p.recomputeFeeding.buses, fun x => ?_, rfl⟩
  cases x
  · exact BusRecord.takeFeed_feed ..
  · exact BusRecord.takeFeed_feed ..

/-- With feeding that agrees with the positions, nothing is told of feeding that is recomputed (R61, R66). -/
theorem feedTasks_agreed {p q : Part} (h : p.feedingAgrees) (hd : ∀ i, q.fedDomain i = p.domainBy i)
    (hf : ∀ x, (q.bus x).feed = p.feedBy x) : feedTasks p q = [] := by
  obtain ⟨hfeed, hdom⟩ := h
  have hv : p.fedDomains = q.fedDomains := by
    ext i hi
    exact ((hdom ⟨i, hi⟩).trans (hd ⟨i, hi⟩).symm)
  have ha : p.buses.a.feed = q.buses.a.feed := (hfeed .a).trans (hf .a).symm
  have hb : p.buses.b.feed = q.buses.b.feed := (hfeed .b).trans (hf .b).symm
  simp [feedTasks, feedDiffers, ha, hb, hv]

/-! ### The domain figures (R172) -/

/-- Every source has the connected demand and the headroom that it had. -/
def Part.sameFigures (p q : Part) : Prop :=
  ∀ i, q.connectedDemand i = p.connectedDemand i ∧ q.headroom i = p.headroom i

theorem Part.sameFigures.trans {p q r : Part} (h : p.sameFigures q) (h' : q.sameFigures r) : p.sameFigures r :=
  fun i => ⟨(h' i).1.trans (h i).1, (h' i).2.trans (h i).2⟩

theorem Part.sameFigures_of_counts {p q : Part} (hd : ∀ i, q.fedDomain i = p.fedDomain i)
    (hb : ∀ g, q.groupBus g = p.groupBus g) (hc : ∀ g, q.feederCounts g = p.feederCounts g)
    (hg : ∀ g, (q.group g).demand = (p.group g).demand) (hcap : ∀ i, q.capacity i = p.capacity i) :
    p.sameFigures q := by
  have h (i : Src) : q.connectedDemand i = p.connectedDemand i := by
    simp only [Part.connectedDemand, hd, hb, hc, hg]
  exact fun i => ⟨h i, by rw [Part.headroom, Part.headroom, hcap, h]⟩

theorem Part.sameFigures_of_sameButLoad {p q : Part} (h : p.sameButLoad q) : p.sameFigures q :=
  fun i => ⟨congrArg (·.connectedDemand i) h.1, congrArg (·.headroom i) h.1⟩

/-! ### The feeder of a lost unit -/

/-- The part once the unit of group `g`'s feeder has dropped out, before feeding is recomputed (R59, R171). -/
def Part.feederDropped (p : Part) (g : Grp) : Part :=
  let q := p.setBreaker (.feeder g)
    { p.breaker (.feeder g) with lastReported := none, ready := false, remote := false, withdrawn := false }
  (q.setBreaker (.feeder g) { q.breaker (.feeder g) with position := .unknown }).setGroup g (q.groupAt g .unknown)

section

variable (p : Part) (g : Grp)

theorem Part.feederDropped_breaker (b : Breaker) : b ≠ .feeder g → (p.feederDropped g).breaker b = p.breaker b := by
  intro h
  refine ((Part.breaker_setBreaker ..).trans (if_neg h)).trans ?_
  exact (Part.breaker_setBreaker ..).trans (if_neg h)

theorem Part.feederDropped_position : ((p.feederDropped g).breaker (.feeder g)).position = .unknown :=
  congrArg BreakerRecord.position ((Part.breaker_setBreaker ..).trans (if_pos rfl))

theorem Part.feederDropped_group (h : Grp) :
    (p.feederDropped g).group h = if h = g then { p.group g with wasClosed := p.feederCounts g } else p.group h := by
  refine (Part.group_setGroup ..).trans ?_
  split
  · have hg (v : BreakerRecord) : (p.setBreaker (.feeder g) v).group g = p.group g := rfl
    have hu : (Position.unknown != Position.closed) = true := rfl
    simp [Part.groupAt, Part.feederCounts, Part.feederClosed, Part.breaker_setBreaker, hg, hu]
  · rfl

/-- A feeder that drops out while it counts goes on counting (R171, log 44). -/
theorem Part.feederDropped_feederCounts (h : Grp) : (p.feederDropped g).feederCounts h = p.feederCounts h := by
  by_cases e : h = g
  · subst e
    simp [Part.feederCounts, Part.feederClosed, p.feederDropped_position, p.feederDropped_group]
  · have hb := p.feederDropped_breaker g (.feeder h) (by simpa using e)
    simp [Part.feederCounts, Part.feederClosed, hb, p.feederDropped_group, e]

theorem Part.feederDropped_feedsBy (i : Src) (x : Bus) : (p.feederDropped g).feedsBy i x = p.feedsBy i x := by
  have hi := p.feederDropped_breaker g (.incomer i) nofun
  have hc := p.feederDropped_breaker g .coupler nofun
  simp only [Part.feedsBy, hi, hc]
  rfl

theorem Part.feederDropped_feedBy (x : Bus) : (p.feederDropped g).feedBy x = p.feedBy x := by
  simp only [Part.feedBy, p.feederDropped_feedsBy g]

theorem Part.feederDropped_domainBy (i : Src) : (p.feederDropped g).domainBy i = p.domainBy i := by
  simp only [Part.domainBy, p.feederDropped_feedsBy g]

end

/-- The unit of a feeder that was not UNKNOWN drops out: only the feeder, its group's row and the bus timers change, and
the Load Manager judges (R59, R61, R171). -/
theorem breakerGone_feeder {p : Part} {g : Grp} (hp : (p.breaker (.feeder g)).position ≠ .unknown)
    (ha : p.feedingAgrees) :
    ∃ q, breakerGone (.feeder g) p = (q, [.load]) ∧ (q.breaker (.feeder g)).position = .unknown ∧
      (p.stoodDown → q.stoodDown) ∧ p.sameFigures q := by
  obtain ⟨v, hv, hq⟩ := (p.feederDropped g).recomputeFeeding_eq
  have hfed (i : Src) : (p.feederDropped g).recomputeFeeding.fedDomain i = p.domainBy i := by
    rw [hq]
    exact (get_mapIndexed ..).trans (p.feederDropped_domainBy g i)
  have hfeed (x : Bus) : ((p.feederDropped g).recomputeFeeding.bus x).feed = p.feedBy x := by
    rw [hq]
    exact (hv x).trans (p.feederDropped_feedBy g x)
  refine ⟨(p.feederDropped g).recomputeFeeding, ?_, ?_, fun hd => ?_, ?_⟩
  · have ht := feedTasks_agreed ha hfed hfeed
    have hb : breakerGone (.feeder g) p = ((p.feederDropped g).recomputeFeeding,
        feedTasks p (p.feederDropped g).recomputeFeeding ++ [.load]) := by
      rw [breakerGone, if_neg hp]
      rfl
    rw [hb, ht, List.nil_append]
  · rw [hq]
    exact p.feederDropped_position g
  · rw [hq]
    exact hd
  · refine Part.sameFigures_of_counts (fun i => (hfed i).trans (ha.2 i).symm) ?_ ?_ ?_ ?_
    all_goals rw [hq]
    · exact fun _ => rfl
    · exact p.feederDropped_feederCounts g
    · intro h
      refine (congrArg GroupRow.demand (p.feederDropped_group g h)).trans ?_
      split
      · next e => rw [e]
      · rfl
    · exact fun _ => rfl

/-! ### The expiry -/

/-- A flag set is the Management Unit's alone (R191). -/
theorem Part.raiseFlag_management (p : Part) (f : Flag) : ∃ v, p.raiseFlag f = p.setManagement v := by
  unfold Part.raiseFlag
  dsimp only
  split
  · exact ⟨p.management, rfl⟩
  · exact ⟨_, rfl⟩

/-- UNIT_LOST and its fault record are the Management Unit's alone (R15, R191, R193). -/
theorem unitLost_management (role : Role) (p : Part) : ∃ v, unitLost role p = (p.setManagement v, []) := by
  obtain ⟨v, hv⟩ := p.raiseFlag_management .unitLost
  have h : ∃ f, unitLost role p = ((p.raiseFlag .unitLost).recordFault f, []) := ⟨_, rfl⟩
  obtain ⟨f, hf⟩ := h
  rw [hf, hv]
  exact ⟨_, rfl⟩

section

variable {s : State} {r : Fin 32} (hs : s.calm) (hd : (s.part.unit r).silence.due = true)
  (ha : (s.part.unit r).state = .active)
include hd ha

theorem silenceExpiry_active :
    silenceExpiry r s.part =
      (s.part.setUnit r { s.part.unit r with state := .lost, rejoin := 0, silence := .stopped },
        lostTasks (s.part.row r).role) := by
  simp [silenceExpiry, hd, ha]

include hs

/-- What the loss of a unit by silence hands off comes to an end. -/
theorem silenceExpiry_event {q : Part} {n : Nat} (hn : n ≤ 31)
    (h : Drains (lostTasks (s.part.row r).role)
      (s.part.setUnit r { s.part.unit r with state := .lost, rejoin := 0, silence := .stopped }) q n) :
    exec (.silenceExpiry r) s = .next { s with part := q } := by
  refine congrArg Host.Outcome.next (event_of_drains (n := n + 1) hs (drains_cons ?_) ?_)
  · rw [runTask, silenceExpiry_active hd ha, List.append_nil]
    exact h
  · have : 32 ≤ Config.eventBound := by decide
    omega

end

/-- The loss of the time master starts the holdover timer of a LOCKED time base (R26). -/
theorem drains_lost_master {p : Part} (hl : p.time.state = .locked) :
    Drains (lostTasks .timeMaster) p
      ((({ p with
        time :=
          { p.time with
            state := .holdover
            holdover := .start (seconds p.time.settings.holdover) } }).raiseFlag .unitLost).recordFault
        (blankFault .unitLost)) 2 := by
  refine drains_single ?_ (drains_single rfl (drains_nil _))
  simp only [runTask, unitGone, masterGone, hl]

/-- The loss of the unit of a CLOSED feeder while the part stands down (R59, R171). -/
theorem drains_lost_feeder {p : Part} {g : Grp} (hc : (p.breaker (.feeder g)).position = .closed)
    (ha : p.feedingAgrees) (hd : p.stoodDown) :
    ∃ q n, n ≤ 16 ∧ Drains (lostTasks (.breaker (.feeder g))) p q n ∧
      (q.breaker (.feeder g)).position = .unknown ∧ p.sameFigures q := by
  obtain ⟨p1, hgone, hpos, hstand, hfig⟩ := breakerGone_feeder (p := p) (g := g) (by simp [hc]) ha
  obtain ⟨p2, n, hn, hload, hsame⟩ := settles_load (hstand hd)
  obtain ⟨v, hlost⟩ := unitLost_management (.breaker (.feeder g)) p2
  refine ⟨p2.setManagement v, n + 2, by omega, ?_, ?_, ?_⟩
  · refine drains_cons ?_
    rw [runTask, unitGone, hgone]
    exact drains_append hload (drains_single hlost (drains_nil _))
  · exact (congrArg (fun q => (q.breaker (.feeder g)).position) hsame.1).trans hpos
  · have h2 : p.sameFigures p2 := hfig.trans (Part.sameFigures_of_sameButLoad hsame)
    exact h2

theorem Part.groupState_unknown {p : Part} {g : Grp} (h : (p.breaker (.feeder g)).position = .unknown) :
    p.groupState g = .unavailable := by
  simp [Part.groupState, h]

/-- Settles O21: the unit is LOST first, and what its owner is told changes no unit record. -/
theorem silenceExpiryLosesAnActiveUnit : Obligations.SilenceExpiryLosesAnActiveUnit := by
  intro s r hs
  have event {q : Part} (h : silenceExpiry r s.part = (q, [])) :
      exec (.silenceExpiry r) s = .next { s with part := q } :=
    congrArg Host.Outcome.next (event_eq hs (drains_single h (drains_nil q)) (by decide))
  refine ⟨fun hd => event (by simp [silenceExpiry, hd]), fun hd ha => event (by simp [silenceExpiry, hd, ha]),
    fun hd ha => ?_⟩
  intro q
  refine ⟨?_, fun hrole hl => ?_, fun g hrole hc hagree hdown => ?_⟩
  · obtain ⟨n, w, he⟩ := event_eq_drain hs (.silenceExpiry r)
    rw [runTask, silenceExpiry_active hd ha] at he
    dsimp only at he
    have hbase := drain_base (ts := lostTasks (s.part.row r).role) rfl n q
    exact ⟨_, congrArg Host.Outcome.next he, Part.units_of_base hbase,
      (Part.unitMap_of_tables (Part.tables_of_base hbase)).trans rfl⟩
  · refine silenceExpiry_event hs hd ha (n := 2) (by omega) ?_
    rw [hrole]
    exact drains_lost_master (p := q) hl
  · obtain ⟨t, n, hn, hdrains, hpos, hfig⟩ := drains_lost_feeder (p := q) hc hagree hdown
    rw [← hrole] at hdrains
    exact ⟨_, silenceExpiry_event hs hd ha (by omega) hdrains, hs, rfl, hpos, Part.groupState_unknown hpos, hfig⟩

end Sys2Proof.Machine
end

section
/-! PROOF. O45: OPERATE is refused, or its entry waits for a slot, or its Command frame is sent at once. -/

namespace Sys2Proof.Machine

/-! ### The entry of OPERATE in an empty schedule (R157, R158, R161) -/

/-- The entry that OPERATE inserts, which is due at once. -/
def Part.operateEntry (p : Part) (b : Breaker) (act : Action) : Entry :=
  { num := p.nextNumber (.breaker b)
    target := .breaker b
    action := act
    executeAt := if p.timeGood then p.now + p.schedule.settings.sendLead else 0
    owner := .management
    sent := false
    insertedAt := p.now
    horizon := p.schedule.settings.horizon
    dueSince := some p.now
    sendStamp := none
    late := false
    deadline := .stopped }

/-- The part with OPERATE's entry alone in its schedule. -/
def Part.operateQueued (p : Part) (b : Breaker) (act : Action) : Part :=
  p.setSchedule
    { p.schedule with
      entries := [p.operateEntry b act]
      next := p.nextNumber (.breaker b) + 1
      tallies := { p.schedule.tallies with inserted := tick16 p.schedule.tallies.inserted } }

section

variable {p : Part} {b : Breaker} {act : Action} {m : Sender}

/-- An entry that OPERATE may insert is due from the start (R161). -/
theorem operate_due (p : Part) :
    (if p.timeGood then p.now + p.schedule.settings.sendLead else 0) ≤ p.now + p.schedule.settings.sendLead := by
  split <;> omega

theorem insertEntry_operate (he : p.schedule.entries = []) :
    p.insertEntry (.breaker b) act .management none =
      .ok (p.operateQueued b act, p.nextNumber (.breaker b)) := by
  have hd := operate_due p
  simp [Part.insertEntry, Part.executeAtFor, he, scheduleRoom, Part.accept, placeEntry, Part.withDue, Part.isDue, hd,
    Part.operateQueued, Part.operateEntry]

/-- OPERATE of a breaker while HALTED, with an empty schedule (R186). -/
theorem carryOut_operate (hm : p.arbiter.mode = .halted) (ha : act = .opn ∨ act = .close)
    (he : p.schedule.entries = []) :
    carryOut m (.operate b.number (some act)) p =
      (p.operateQueued b act, [.handOver, .respondOperate m (p.nextNumber (.breaker b))]) := by
  have ho : operable (some act) = some act := by rcases ha with rfl | rfl <;> rfl
  simp [carryOut, requestOperate, hm, Breaker.ofNumber_number, ho, insertEntry_operate he]

theorem operateQueued_refreshDue : (p.operateQueued b act).refreshDue = p.operateQueued b act := by
  refine Part.refreshDue_of_entries fun e he => ?_
  obtain rfl : e = p.operateEntry b act := by simpa [Part.operateQueued, Part.setSchedule] using he
  have hd : (p.operateQueued b act).isDue (p.operateEntry b act) = true := decide_eq_true (operate_due p)
  rw [Part.withDue, if_neg (by exact Bool.false_ne_true), if_pos hd]
  rfl

/-- OPERATE's entry waits while a slot is not free (R162). -/
theorem handOver_operate_waits (hs : p.slotsFree = false) :
    handOver (p.operateQueued b act) = (p.operateQueued b act, []) := by
  have hg : (p.operateQueued b act).sendLine.find? (·.isGuard) = none := rfl
  have hf : (p.operateQueued b act).slotsFree = false := hs
  rw [handOver, operateQueued_refreshDue]
  simp [hg, hf]

/-- OPERATE's entry is at the head of the send line when the slots are free and no copy is held (R162). -/
theorem handOver_operate_judged (hs : p.slotsFree = true) (hh : p.schedule.held = []) :
    handOver (p.operateQueued b act) = judgeHead (p.operateEntry b act) (p.operateQueued b act) := by
  have hl : (p.operateQueued b act).sendLine = [p.operateEntry b act] := rfl
  have hg : [p.operateEntry b act].find? (·.isGuard) = none := rfl
  have hf : (p.operateQueued b act).slotsFree = true := hs
  have hc : (p.operateQueued b act).schedule.held = [] := hh
  rw [handOver, operateQueued_refreshDue]
  simp [hl, hg, hf, hc]

theorem respondOperate_held {q : Part} {e : Entry} (m : Sender) (h : q.schedule.entries = [e]) :
    respondOperate m e.num q = (q, [.respond m .done [.operated e.num e.sent none]]) := by
  simp [respondOperate, Part.entry, h]

end

/-! ### A Command frame on its way out (R6, R7) -/

/-- A port with its arbiter run: a free transmitter takes the next frame (R6). -/
def PortState.egressed (x : PortState) : PortState := if x.up && x.sending.isNone then x.sendNext else x

/-- The arbiter of a port while the Command Scheduler has nothing to hand over (R6, R162). -/
theorem drains_egress {p : Part} (h : p.allSent) (k : Port) :
    ∃ n, n ≤ 2 ∧ Drains [.egress k] p (p.setPort k (p.port k).egressed) n := by
  by_cases hf : ((p.port k).up && (p.port k).sending.isNone) = true
  · obtain ⟨hu, hs⟩ := Bool.and_eq_true_iff.mp hf
    rw [PortState.egressed, if_pos hf]
    exact drains_egress_free h hu (Option.isNone_iff_eq_none.mp hs)
  · refine ⟨1, by omega, drains_single ?_ (drains_nil _)⟩
    rw [PortState.egressed, if_neg hf, Part.setPort_self, runTask, egress, if_neg hf]

/-- The part with both arbiters run. -/
def Part.egressed (p : Part) : Part := (p.setPort .one (p.port .one).egressed).setPort .two (p.port .two).egressed

theorem drains_bothEgress {p : Part} (h : p.allSent) : ∃ n, n ≤ 4 ∧ Drains bothEgress p p.egressed n := by
  obtain ⟨i, hi, h1⟩ := drains_egress h .one
  obtain ⟨j, hj, h2⟩ := drains_egress (p := p.setPort .one (p.port .one).egressed) h .two
  exact ⟨i + j, by omega, drains_append h1 h2⟩

theorem Part.egressed_port (p : Part) (k : Port) : p.egressed.port k = (p.port k).egressed := by cases k <;> rfl

/-- A port that was UP as `x` has taken the Command frame `f`: it is being sent where the transmitter was free, and else
waits in its slot (R6, R7). -/
def PortState.carries (f : CommandFrame) (x y : PortState) : Prop :=
  y.sending.isSome = true ∧ if x.sending = none then y.sending = some (.command f) else y.command = some f

theorem PortState.egressed_carries (f : CommandFrame) {x : PortState} (hu : x.up = true) :
    x.carries f ({ x with command := some f } : PortState).egressed := by
  unfold PortState.carries PortState.egressed
  by_cases hs : x.sending = none
  · simp [hu, hs, PortState.sendNext]
  · simp [hs, Option.isSome_iff_ne_none]

theorem PortState.carries.egressed {f : CommandFrame} {x y : PortState} (h : x.carries f y) :
    x.carries f y.egressed := by
  have hn : y.sending.isNone = false := Option.isNone_eq_false_iff.mpr h.1
  simpa [PortState.egressed, hn] using h

/-- Every port of `p` that is UP has taken the Command frame `f`. -/
def Part.carries (f : CommandFrame) (p q : Part) : Prop :=
  ∀ k, (p.port k).up = true → (p.port k).carries f (q.port k)

theorem Part.carries.egressed {f : CommandFrame} {p q : Part} (h : p.carries f q) : p.carries f q.egressed := by
  intro k hu
  rw [Part.egressed_port]
  exact (h k hu).egressed

/-! ### Sending the entry (R162, step 3; R164) -/

theorem attemptSent_eq (num : CmdNum) (p : Part) :
    ∃ a t, attemptSent num p = { p with attempt := a, syncTimer := t } := by
  unfold attemptSent
  split
  · split
    · exact ⟨_, _, rfl⟩
    · exact ⟨p.attempt, p.syncTimer, rfl⟩
  · exact ⟨p.attempt, p.syncTimer, rfl⟩

/-- A breaker with one more operation (R63). -/
def BreakerRecord.operated (r : BreakerRecord) : BreakerRecord := { r with opCount := tick16 r.opCount }

theorem countOperation_eq (b : Breaker) (p : Part) :
    ∃ v, countOperation (.breaker b) p = (p.setBreaker b (p.breaker b).operated).setManagement v := by
  unfold countOperation Part.judgeService
  dsimp only
  split
  · exact (p.setBreaker b (p.breaker b).operated).raiseFlag_management .serviceDue
  · exact ⟨p.management, rfl⟩

theorem placeCommand_eq (f : CommandFrame) (k : Port) (p : Part) :
    placeCommand f k p = p.setPort k (if (p.port k).up then { p.port k with command := some f } else p.port k) := by
  unfold placeCommand
  split
  · rfl
  · exact (p.setPort_self k).symm

/-- Egress puts a Command frame in the Command slot of every port that is UP, and changes the ports only (R7). -/
theorem acceptCommand_eq (f : CommandFrame) (p : Part) :
    ∃ l, acceptCommand f p = { p with link := l } ∧
      ∀ k, (p.port k).up = true → l.ports.get k = { p.port k with command := some f } := by
  unfold acceptCommand
  split
  · rw [placeCommand_eq, placeCommand_eq]
    refine ⟨_, rfl, fun k hu => ?_⟩
    cases k <;> exact if_pos hu
  · next h =>
    refine ⟨_, rfl, fun k hu => absurd ?_ h⟩
    cases k <;> simp [hu]

/-- An entry that is SENT now, in time (R162, R164). -/
def Part.sentEntry (p : Part) (e : Entry) : Entry :=
  { e with sent := true, sendStamp := some p.now, late := false, deadline := .start (p.deadlineFor e) }

/-- The part with its only entry SENT, once its links are `l`. -/
def Part.entrySent (p : Part) (e : Entry) (l : LinkState) : Part :=
  { p with
    link := l
    schedule :=
      { p.schedule with
        entries := [p.sentEntry e]
        tallies := { p.schedule.tallies with sent := tick16 p.schedule.tallies.sent } } }

/-- The Command frame of an entry that is SENT now (R9, R162). -/
def Part.commandFrame (p : Part) (e : Entry) : CommandFrame :=
  ⟨⟨.line, p.link.straps, p.link.txSeq, p.now⟩, e.num, e.target, e.action, e.executeAt⟩

theorem putEntry_alone {p : Part} {e e' : Entry} (he : p.schedule.entries = [e]) (hn : e.num = e'.num) :
    p.putEntry e' = p.setEntries [e'] := by
  rw [Part.putEntry, he, List.map_singleton, if_pos hn]

/-- The entry that stands alone in the schedule, due since now, is SENT in time (R162, R164). -/
theorem sendEntry_alone {p : Part} {e : Entry} (he : p.schedule.entries = [e]) (hd : e.dueSince = some p.now) :
    ∃ l, sendEntry e p = (attemptSent e.num (countOperation e.target (p.entrySent e l)), bothEgress ++ [.handOver]) ∧
      ∀ k, (p.port k).up = true → l.ports.get k = { p.port k with command := some (p.commandFrame e) } := by
  obtain ⟨l, hl, hports⟩ := acceptCommand_eq (p.commandFrame e) p.nextSeq
  have hlate : ¬ (e.dueSince.getD p.now + p.schedule.settings.lateTol < p.now) := by
    rw [hd, Option.getD_some]
    omega
  have hput := putEntry_alone (p := acceptCommand (p.commandFrame e) p.nextSeq) (e := e) (e' := p.sentEntry e)
    (by rw [hl]; exact he) rfl
  refine ⟨l, ?_, hports⟩
  simp only [sendEntry, hlate, decide_false, if_false]
  refine congrArg (fun q => (attemptSent e.num (countOperation e.target q), bothEgress ++ [.handOver])) ?_
  change ((acceptCommand (p.commandFrame e) p.nextSeq).putEntry (p.sentEntry e)).countSchedule _ = _
  rw [hput, hl]
  rfl

/-- Sending the entry of a breaker changes the schedule, the ports and the breaker's count, besides what it leaves to
the Management Unit and the Synchronising Unit (R63, R151, R162). -/
theorem sendEntry_breaker {p : Part} {e : Entry} {b : Breaker} (he : p.schedule.entries = [e])
    (hd : e.dueSince = some p.now) (ht : e.target = .breaker b) :
    ∃ q, sendEntry e p = (q, bothEgress ++ [.handOver]) ∧
      q.schedule = (p.entrySent e p.link).schedule ∧
      q.breakers = (p.setBreaker b (p.breaker b).operated).breakers ∧
      ∀ k, (p.port k).up = true → q.port k = { p.port k with command := some (p.commandFrame e) } := by
  obtain ⟨l, hsend, hports⟩ := sendEntry_alone he hd
  obtain ⟨v, hv⟩ := countOperation_eq b (p.entrySent e l)
  obtain ⟨a, t, hat⟩ := attemptSent_eq e.num (countOperation (.breaker b) (p.entrySent e l))
  rw [ht, hat, hv] at hsend
  exact ⟨_, hsend, rfl, rfl, hports⟩

/-! ### The answer (R185, R186) -/

/-- `q` has the schedule, the breakers and the Command frames of `p`, in the slots and on the way. -/
def Part.keepsCommands (p q : Part) : Prop :=
  q.schedule = p.schedule ∧ q.breakers = p.breakers ∧
    ∀ k, (q.port k).sending = (p.port k).sending ∧ (q.port k).command = (p.port k).command

theorem Part.keepsCommands.trans {p q r : Part} (h : p.keepsCommands q) (h' : q.keepsCommands r) :
    p.keepsCommands r := by
  obtain ⟨hs, hb, hk⟩ := h
  obtain ⟨hs', hb', hk'⟩ := h'
  exact ⟨hs'.trans hs, hb'.trans hb, fun k => ⟨(hk' k).1.trans (hk k).1, (hk' k).2.trans (hk k).2⟩⟩

theorem Part.keepsCommands_setPort {p : Part} {j : Port} {v : PortState} (hs : v.sending = (p.port j).sending)
    (hc : v.command = (p.port j).command) : p.keepsCommands (p.setPort j v) := by
  refine ⟨rfl, rfl, fun k => ?_⟩
  rw [Part.port_setPort]
  split
  · next e => exact e ▸ ⟨hs, hc⟩
  · exact ⟨rfl, rfl⟩

theorem placeResponse_keepsCommands (g : ResponseFrame) (j : Port) (p : Part) :
    p.keepsCommands (placeResponse g j p) := by
  unfold placeResponse
  dsimp only
  split
  · exact ⟨rfl, rfl, fun _ => ⟨rfl, rfl⟩⟩
  · split
    · exact Part.keepsCommands_setPort rfl rfl
    · exact Part.keepsCommands_setPort rfl rfl

/-- A Response frame leaves the schedule, the breakers and the Command frames as they are (R7, R185). -/
theorem respond_keepsCommands (m : Sender) (a : Answer) (rows : List RowData) (p : Part) :
    ∃ q, respond m a rows p = (q, bothEgress) ∧ p.keepsCommands q := by
  have hplace (r : Part) (g : ResponseFrame) : r.keepsCommands (placeResponse g .two (placeResponse g .one r)) :=
    (placeResponse_keepsCommands ..).trans (placeResponse_keepsCommands ..)
  cases a with
  | refused why => exact ⟨_, rfl, hplace (Part.nextSeq (p.setManagement _)) _⟩
  | done => exact ⟨_, rfl, hplace p.nextSeq _⟩
  | clamped refs => exact ⟨_, rfl, hplace p.nextSeq _⟩

theorem Part.carries.keeps {f : CommandFrame} {p q r : Part} (h : p.carries f q) (hk : q.keepsCommands r) :
    p.carries f r := by
  obtain ⟨_, _, hports⟩ := hk
  intro k hu
  obtain ⟨hs, hc⟩ := hports k
  unfold PortState.carries
  rw [hs, hc]
  exact h k hu

/-- What OPERATE hands off after its entry is SENT: the frame goes out where it can, and the request is answered. -/
theorem drains_sent {p q : Part} {e : Entry} {f : CommandFrame} (m : Sender) (he : q.schedule.entries = [e])
    (hs : q.allSent) (hf : ∀ k, (p.port k).up = true → q.port k = { p.port k with command := some f }) :
    ∃ r n, n ≤ 16 ∧ Drains ((bothEgress ++ [.handOver]) ++ [.respondOperate m e.num]) q r n ∧
      r.schedule = q.schedule ∧ r.breakers = q.breakers ∧ p.carries f r := by
  obtain ⟨i, hi, h1⟩ := drains_bothEgress hs
  obtain ⟨r, hr, hk⟩ := respond_keepsCommands m .done [.operated e.num e.sent none] q.egressed
  obtain ⟨hsched, hbreak, _⟩ := id hk
  have hrs : r.allSent := by
    unfold Part.allSent
    rw [hsched]
    exact hs
  obtain ⟨j, hj, h2⟩ := drains_bothEgress hrs
  have hanswer : Drains [.respondOperate m e.num] q.egressed r.egressed (j + 1 + 1) := by
    refine drains_cons ?_
    rw [runTask, respondOperate_held m (q := q.egressed) he]
    refine drains_cons ?_
    rw [runTask, hr]
    exact h2
  have hc : p.carries f q.egressed := fun k hu => by
    rw [Part.egressed_port, hf k hu]
    exact PortState.egressed_carries f hu
  refine ⟨r.egressed, i + 1 + (j + 1 + 1), by omega,
    drains_append (drains_append h1 (drains_handOver (p := q.egressed) hs)) hanswer, hsched, hbreak,
    (hc.keeps hk).egressed⟩

/-! ### The request -/

/-- OPERATE is refused while its tests fail (R186). -/
theorem operate_refused {s : State} (hs : s.serves) (hr : s.part.linkRests) {m : Sender} {n : Nat} {a : Option Action}
    {why : RefusedReason} {rows : List RowData}
    (h : requestOperate m n a s.part.countRequest = (s.part.countRequest, [.respond m (.refused why) rows])) :
    exec (.operate m n a) s = .next { s with part := s.part.onlyAnswers m (.refused why) rows } :=
  congrArg Host.Outcome.next (requestEvent_of_answer (r := .operate n a) hs (Part.countRequest_rests hr) h)

theorem operable_none {a : Option Action} (ho : a ≠ some .opn) (hc : a ≠ some .close) : operable a = none := by
  cases a with
  | none => rfl
  | some act => cases act <;> simp_all [operable]

theorem requestOperate_full {p : Part} {b : Breaker} {act : Action} (m : Sender) (hm : p.arbiter.mode = .halted)
    (ha : act = .opn ∨ act = .close) (hf : 16 ≤ p.schedule.entries.length) :
    requestOperate m b.number (some act) p = (p, [.respond m (.refused .state) [.scheduleFull]]) := by
  have ho : operable (some act) = some act := by rcases ha with rfl | rfl <;> rfl
  simp [requestOperate, hm, Breaker.ofNumber_number, ho, Part.insertEntry, Part.executeAtFor, scheduleRoom, hf]

/-- OPERATE's entry waits while a slot is not free, and the request is answered (R162, R186). -/
theorem drains_operate_waits {p : Part} {b : Breaker} {act : Action} (m : Sender) (hr : p.linkRests)
    (hs : p.slotsFree = false) :
    Drains [.handOver, .respondOperate m (p.nextNumber (.breaker b))] (p.operateQueued b act)
      ((p.operateQueued b act).answerWith m .done [.operated (p.nextNumber (.breaker b)) false none]) 5 := by
  refine drains_single (handOver_operate_waits hs) (drains_cons ?_)
  have ha := respondOperate_held (q := p.operateQueued b act) (e := p.operateEntry b act) m rfl
  change Drains ((respondOperate m (p.operateEntry b act).num (p.operateQueued b act)).2 ++ []) _ _ 3
  rw [ha]
  exact drains_respond (p := p.operateQueued b act) hr m .done _

/-- With POOR time quality and nothing that blocks it, OPERATE's entry is SENT when it is judged (R158, R162). -/
theorem judgeHead_operate {p : Part} {b : Breaker} {act : Action} (hg : p.timeGood = false)
    (hb : p.blockCause b act .management = none) :
    judgeHead (p.operateEntry b act) (p.operateQueued b act) =
      sendEntry (p.operateEntry b act) (p.operateQueued b act) := by
  have hx : (p.operateEntry b act).executeAt = 0 := by simp [Part.operateEntry, hg]
  have hc : (p.operateQueued b act).blockCause b (p.operateEntry b act).action (p.operateEntry b act).owner = none := hb
  have ht : (p.operateEntry b act).target = .breaker b := rfl
  simp [judgeHead, hx, ht, hc]

/-- OPERATE's entry is SENT, its frame goes out where it can, and the request is answered (R162, R186). -/
theorem drains_operate_sent {p : Part} {b : Breaker} {act : Action} (m : Sender) (he : p.scheduleEmpty)
    (hs : p.slotsFree = true) (hg : p.timeGood = false) (hb : p.blockCause b act .management = none) :
    ∃ r n, n ≤ 17 ∧
      Drains [.handOver, .respondOperate m (p.nextNumber (.breaker b))] (p.operateQueued b act) r n ∧
      r.schedule = ((p.operateQueued b act).entrySent (p.operateEntry b act) p.link).schedule ∧
      r.breakers = (p.setBreaker b (p.breaker b).operated).breakers ∧
      p.carries ((p.operateQueued b act).commandFrame (p.operateEntry b act)) r := by
  obtain ⟨q, hsend, hsched, hbreak, hports⟩ :=
    sendEntry_breaker (p := p.operateQueued b act) (e := p.operateEntry b act) (b := b) rfl rfl rfl
  have hentries : q.schedule.entries = [(p.operateQueued b act).sentEntry (p.operateEntry b act)] :=
    congrArg Schedule.entries hsched
  have hall : q.allSent := by
    refine ⟨fun e h => ?_, (congrArg Schedule.held hsched).trans he.2⟩
    rw [hentries, List.mem_singleton] at h
    exact h ▸ rfl
  obtain ⟨r, n, hn, hd, hrs, hrb, hrf⟩ := drains_sent (p := p) m hentries hall hports
  refine ⟨r, n + 1, by omega, drains_cons ?_, hrs.trans hsched, hrb.trans hbreak, hrf⟩
  rw [runTask, handOver_operate_judged hs he.2, judgeHead_operate hg hb, hsend]
  exact hd

theorem countRequest_nextNumber (p : Part) (t : Target) : p.countRequest.nextNumber t = p.nextNumber t := by
  have h (k : Nat) (n : CmdNum) : p.countRequest.numberFrom t k n = p.numberFrom t k n := by
    induction k generalizing n with
    | zero => rfl
    | succ k ih =>
      have hf : p.countRequest.numberFree t n = p.numberFree t n := rfl
      rw [Part.numberFrom, Part.numberFrom, hf, ih]
  exact h 256 p.schedule.next

/-- Settles O45: the tests in their order, then the entry that waits, then the entry that is SENT. -/
theorem operateIsRefusedQueuedOrSent : Obligations.OperateIsRefusedQueuedOrSent := by
  refine ⟨fun m s n a hs hr => ⟨fun hm => ?_, fun hm hn => ?_, fun b hm hb => ⟨fun ho hc => ?_, ?_⟩⟩, ?_⟩
  · exact operate_refused hs hr (by simp [requestOperate, Part.countRequest, hm, refused])
  · have hmode : s.part.countRequest.arbiter.mode = .halted := hm
    exact operate_refused hs hr (by simp [requestOperate, hmode, Breaker.ofNumber_out hn, refused])
  · have hmode : s.part.countRequest.arbiter.mode = .halted := hm
    exact operate_refused hs hr
      (by simp [requestOperate, hmode, hb, Breaker.ofNumber_number, operable_none ho hc, refused])
  · rintro act rfl ha
    subst hb
    refine ⟨fun hfull => operate_refused hs hr (requestOperate_full m hm ha hfull), fun he hslots => ?_⟩
    have hc := carryOut_operate (p := s.part.countRequest) (b := b) (m := m) hm ha he
    refine congrArg Host.Outcome.next
      (requestEvent_of_drains (r := .operate b.number (some act)) (n := 5) hs ?_ (by decide))
    rw [hc]
    exact drains_operate_waits m (Part.countRequest_rests hr) hslots
  · intro m s b act hs hm hempty hslots hpoor ha hblock
    have hc := carryOut_operate (p := s.part.countRequest) (b := b) (m := m) hm ha hempty.1
    obtain ⟨r, n, hn, hd, hsched, hbreak, hf⟩ :=
      drains_operate_sent (p := s.part.countRequest) (b := b) (act := act) m hempty hslots hpoor hblock
    have hx : (s.part.countRequest.operateEntry b act).executeAt = 0 := by
      simp [Part.operateEntry, show s.part.countRequest.timeGood = false from hpoor]
    have hb (c : Breaker) : r.breaker c = if c = b then (s.part.breaker b).operated else s.part.breaker c :=
      (congrArg (·.get c.idx) hbreak).trans (s.part.breaker_setBreaker b c _)
    have hsent : r.schedule.tallies.sent = tick16 s.part.schedule.tallies.sent := by
      rw [hsched]
      rfl
    have hnum := countRequest_nextNumber s.part (.breaker b)
    refine ⟨_, congrArg Host.Outcome.next (requestEvent_of_drains (r := .operate b.number (some act)) (n := n) hs
      (by rw [hc]; exact hd) ?_), ⟨(s.part.countRequest.operateQueued b act).sentEntry
        (s.part.countRequest.operateEntry b act), congrArg Schedule.entries hsched, hnum, rfl, rfl, hx, rfl, rfl, rfl,
        rfl, ?_⟩, ?_, hsent, (hb b).trans (if_pos rfl), fun c hne => (hb c).trans (if_neg hne)⟩
    · have : 17 < Config.eventBound := by decide
      omega
    · have hdead : (s.part.countRequest.operateQueued b act).deadlineFor (s.part.countRequest.operateEntry b act) =
          (if act = .close then (s.part.brkSet b).tc else (s.part.brkSet b).topen) +
            (s.part.brkSet b).margin * 1000 := congrArg (_ + ·) ((congrArg (· - _) hx).trans (Nat.zero_sub _))
      exact congrArg Timer.start hdead
    · intro f k hu
      have hframe :
          (s.part.countRequest.operateQueued b act).commandFrame (s.part.countRequest.operateEntry b act) = f := by
        rw [Part.commandFrame, hx]
        exact congrArg (fun n => CommandFrame.mk _ n _ _ _) hnum
      rw [hframe] at hf
      exact (hf k hu).2

end Sys2Proof.Machine
end

section
/-! SUPPORT. The clocks of the part: the time state, the parallel guard and the load stages with their timers. Most
functions that a hand-off runs leave them as they are, one lemma for each. -/

namespace Sys2Proof.Machine

/-- What the law of the holdover, guard and load timers is about (R26, R134, R175). -/
def Part.clocks (p : Part) : (TimeState × Timer) × GuardRecord × PerBus LoadStage :=
  ((p.time.state, p.time.holdover), p.guard, p.stages)

section

variable (p : Part)

/-- A part with the clocks of `p` in their places has its clocks, whatever else it holds. -/
@[simp] theorem Part.clocks_mk {p : Part} {t : TimeBase}
    {link map units points srcSet src brkSet brk top busSet buses fed arb channels templates cands sel ex cur prev sync
      att timer sch groups m free}
    (hs : t.state = p.time.state) (hh : t.holdover = p.time.holdover) :
    Part.clocks ⟨link, map, units, t, points, srcSet, src, brkSet, brk, top, busSet, buses, fed, arb, channels,
      templates, cands, sel, ex, cur, prev, p.guard, sync, att, timer, sch, groups, p.stages, m, free⟩ =
        p.clocks := by
  simp [Part.clocks, hs, hh]

@[simp] theorem Part.setRow_clocks (i v) : (p.setRow i v).clocks = p.clocks := rfl
@[simp] theorem Part.setSource_clocks (i v) : (p.setSource i v).clocks = p.clocks := rfl
@[simp] theorem Part.setBreaker_clocks (i v) : (p.setBreaker i v).clocks = p.clocks := rfl
@[simp] theorem Part.setBus_clocks (i v) : (p.setBus i v).clocks = p.clocks := rfl
@[simp] theorem Part.setGroup_clocks (i v) : (p.setGroup i v).clocks = p.clocks := rfl
@[simp] theorem Part.setSchedule_clocks (v) : (p.setSchedule v).clocks = p.clocks := rfl
@[simp] theorem Part.setExec_clocks (v) : (p.setExec v).clocks = p.clocks := rfl
@[simp] theorem Part.setManagement_clocks (v) : (p.setManagement v).clocks = p.clocks := rfl
@[simp] theorem Part.setAttempt_clocks (v) : (p.setAttempt v).clocks = p.clocks := rfl
@[simp] theorem Part.setEntries_clocks (es) : (p.setEntries es).clocks = p.clocks := rfl
@[simp] theorem Part.putEntry_clocks (e) : (p.putEntry e).clocks = p.clocks := rfl
@[simp] theorem Part.dropEntry_clocks (num) : (p.dropEntry num).clocks = p.clocks := rfl
@[simp] theorem Part.countSchedule_clocks (f) : (p.countSchedule f).clocks = p.clocks := rfl
@[simp] theorem Part.refreshDue_clocks : p.refreshDue.clocks = p.clocks := rfl
@[simp] theorem Part.accept_clocks (target action owner t) : (p.accept target action owner t).1.clocks = p.clocks := rfl
@[simp] theorem Part.tally_clocks (k f) : (p.tally k f).clocks = p.clocks := rfl
@[simp] theorem Part.nextSeq_clocks : p.nextSeq.clocks = p.clocks := rfl
@[simp] theorem Part.bind_clocks (r n) : (p.bind r n).clocks = p.clocks := rfl
@[simp] theorem Part.clearFlag_clocks (f) : (p.clearFlag f).clocks = p.clocks := rfl
@[simp] theorem Part.recordFault_clocks (r) : (p.recordFault r).clocks = p.clocks := rfl
@[simp] theorem Part.judgeReturn_clocks (x) : (p.judgeReturn x).clocks = p.clocks := rfl
@[simp] theorem Part.judgeReturns_clocks : p.judgeReturns.clocks = p.clocks := rfl
@[simp] theorem Part.engage_clocks (c e) : (p.engage c e).clocks = p.clocks := rfl
@[simp] theorem Part.updateStep_clocks (f) : (p.updateStep f).clocks = p.clocks := rfl

@[simp] theorem Part.raiseFlag_clocks (f : Flag) : (p.raiseFlag f).clocks = p.clocks := by
  simp only [Part.raiseFlag]
  split <;> rfl

@[simp] theorem Part.setIfStanding_clocks (f : Flag) : (p.setIfStanding f).clocks = p.clocks := by
  unfold Part.setIfStanding
  split <;> simp

@[simp] theorem Part.judgeService_clocks (b : Breaker) : (p.judgeService b).clocks = p.clocks := by
  unfold Part.judgeService
  split <;> simp

@[simp] theorem Part.setPosition_clocks (b : Breaker) (pos : Position) : (p.setPosition b pos).clocks = p.clocks := by
  cases b <;> rfl

/-- Parts reached in turn, each with the clocks of the one before it. -/
@[simp] theorem foldl_clocks {α : Type} {f : Part → α → Part} (h : ∀ q a, (f q a).clocks = q.clocks)
    (l : List α) : (l.foldl f p).clocks = p.clocks := by
  induction l generalizing p with
  | nil => rfl
  | cons a l ih => exact (ih (f p a)).trans (h p a)

/-! ### The Request Arbiter -/

@[simp] theorem raise_clocks (c : Channel) : (raise c p).1.clocks = p.clocks := by
  simp only [raise]
  split <;> rfl

@[simp] theorem judgeTake_clocks : (judgeTake p).1.clocks = p.clocks := by
  unfold judgeTake
  split
  · rfl
  · dsimp only
    split <;> rfl

@[simp] theorem planEnded_clocks (o : PlanOutcome) : (planEnded o p).1.clocks = p.clocks := by
  unfold planEnded
  split <;> rfl

@[simp] theorem endEngagement_clocks (c : Channel) : (endEngagement c p).1.clocks = p.clocks := by
  unfold endEngagement
  split <;> rfl

@[simp] theorem arbiterIdle_clocks : (arbiterIdle p).1.clocks = p.clocks := by
  unfold arbiterIdle
  dsimp only
  repeat' split
  all_goals rfl

@[simp] theorem judgePreempt_clocks : (judgePreempt p).1.clocks = p.clocks := by
  unfold judgePreempt
  repeat' split
  all_goals rfl

@[simp] theorem afterStart_clocks : (afterStart p).1.clocks = p.clocks := rfl

/-! ### The Breaker and Bus Monitor -/

@[simp] theorem countUncommanded_clocks (b : Breaker) : (countUncommanded b p).clocks = p.clocks := by cases b <;> rfl

@[simp] theorem takeReport_clocks (b : Breaker) (r : BreakerReport) : (takeReport b r p).1.clocks = p.clocks := by
  unfold takeReport
  dsimp only
  repeat' split
  all_goals simp

@[simp] theorem breakerGone_clocks (b : Breaker) : (breakerGone b p).1.clocks = p.clocks := by
  unfold breakerGone
  dsimp only
  split <;> simp

@[simp] theorem liveState_clocks (x : Bus) : (liveState x p).1.clocks = p.clocks := by
  unfold liveState
  dsimp only
  repeat' split
  all_goals rfl

@[simp] theorem deadConfirmExpiry_clocks (x : Bus) : (deadConfirmExpiry x p).1.clocks = p.clocks := by
  unfold deadConfirmExpiry
  dsimp only
  repeat' split
  all_goals rfl

@[simp] theorem monitorIdle_clocks : (monitorIdle p).clocks = p.clocks := by
  simp only [monitorIdle]
  repeat' split
  all_goals rfl

@[simp] theorem busFault_clocks (x : Bus) (b : Breaker) : (busFault x b p).1.clocks = p.clocks := by
  unfold busFault
  split <;> simp

@[simp] theorem returnExpiry_clocks (x : Bus) : (returnExpiry x p).1.clocks = p.clocks := by
  unfold returnExpiry
  split <;> rfl

@[simp] theorem startBus_clocks (x : Bus) : (startBus x p).1.clocks = p.clocks := rfl

@[simp] theorem unplannedExpiry_clocks (x : Bus) : (unplannedExpiry x p).1.clocks = p.clocks := by
  simp only [unplannedExpiry]
  split <;> simp

@[simp] theorem guardEnded_clocks : (guardEnded p).clocks = p.clocks := rfl
@[simp] theorem feedTold_clocks : (feedTold p).1.clocks = p.clocks := rfl
@[simp] theorem raiseLost_clocks (x) : (raiseLost x p).1.clocks = p.clocks := rfl

@[simp] theorem breakerFails_clocks (b : Breaker) : (breakerFails b p).clocks = p.clocks := by simp [breakerFails]

@[simp] theorem countInterlock_clocks (b : Breaker) : (countInterlock b p).clocks = p.clocks := rfl

/-! ### The Link Port -/

@[simp] theorem egress_clocks (k : Port) : (egress k p).1.clocks = p.clocks := by
  unfold egress
  repeat' split
  all_goals rfl

@[simp] theorem offerForward_clocks (k : Port) (bytes : List Byte) : (offerForward k bytes p).1.clocks = p.clocks := by
  simp only [offerForward]
  repeat' split
  all_goals rfl

@[simp] theorem placeResponse_clocks (f : ResponseFrame) (k : Port) : (placeResponse f k p).clocks = p.clocks := by
  simp only [placeResponse]
  repeat' split
  all_goals rfl

@[simp] theorem placeStatus_clocks (f : StatusFrame) (k : Port) : (placeStatus f k p).clocks = p.clocks := by
  unfold placeStatus
  split <;> rfl

@[simp] theorem placeCommand_clocks (f : CommandFrame) (k : Port) : (placeCommand f k p).clocks = p.clocks := by
  unfold placeCommand
  split <;> rfl

@[simp] theorem acceptCommand_clocks (f : CommandFrame) : (acceptCommand f p).clocks = p.clocks := by
  unfold acceptCommand
  split <;> simp

@[simp] theorem respond_clocks (m : Sender) (a : Answer) (rows : List RowData) :
    (respond m a rows p).1.clocks = p.clocks := by
  simp only [respond]
  split <;> simp

@[simp] theorem portUp_clocks (k : Port) : (portUp k p).1.clocks = p.clocks := by
  simp only [portUp]
  split <;> rfl

@[simp] theorem portDown_clocks (k : Port) : (portDown k p).1.clocks = p.clocks := by
  simp only [portDown]
  split <;> rfl

@[simp] theorem transmitEnd_clocks (k : Port) : (transmitEnd k p).1.clocks = p.clocks := by
  simp only [transmitEnd]
  split <;> rfl

@[simp] theorem takeIn_clocks (k : Port) (bytes : List Byte) : (takeIn k bytes p).1.clocks = p.clocks := by
  unfold takeIn
  split <;> rfl

@[simp] theorem receive_clocks (k : Port) (ok : Bool) (bytes : List Byte) :
    (receive k ok bytes p).1.clocks = p.clocks := by
  unfold receive
  dsimp only
  repeat' split
  all_goals simp

@[simp] theorem unitLost_clocks (role : Role) : (unitLost role p).1.clocks = p.clocks := by simp [unitLost]

@[simp] theorem silenceExpiry_clocks (r : Fin 32) : (silenceExpiry r p).1.clocks = p.clocks := by
  simp only [silenceExpiry]
  repeat' split
  all_goals rfl

@[simp] theorem mapFrame_clocks (k : Port) (h : Header) (b : Body) : (mapFrame k h b p).1.clocks = p.clocks := by
  unfold mapFrame
  dsimp only
  repeat' split
  all_goals rfl

@[simp] theorem claimRow_clocks (k : Port) (r : Fin 32) (n : Fin 255) : (claimRow k r n p).1.clocks = p.clocks := by
  rcases claimRow_cases p k r n with h | h | h | ⟨h, _⟩ | ⟨r2, h, _⟩ <;> simp [h]

@[simp] theorem announce_clocks (k : Port) (f : AnnounceFrame) : (announce k f p).1.clocks = p.clocks :=
  announce_keeps p (fun q => q.clocks = p.clocks) rfl (fun _ _ => claimRow_clocks ..) fun _ _ _ hq => hq

@[simp] theorem statusExpiry_clocks : (statusExpiry p).1.clocks = p.clocks := by
  unfold statusExpiry
  split <;> simp

/-! ### The Command Scheduler -/

theorem Part.insertEntry_clocks {p q : Part} {target : Target} {action : Action} {owner : Owner} {timed : Option Nat}
    {num : CmdNum} (h : p.insertEntry target action owner timed = .ok (q, num)) : q.clocks = p.clocks := by
  unfold Part.insertEntry at h
  split at h
  · cases h
  · split at h <;> cases h
    rfl

@[simp] theorem Part.insertGuard_clocks (b : Breaker) (serial : Nat) :
    (p.insertGuard b serial).1.clocks = p.clocks := by
  simp only [Part.insertGuard]
  split <;> simp

theorem Part.retimeEntry_clocks {p q : Part} {num : CmdNum} {t : Nat} (h : p.retimeEntry num t = some q) :
    q.clocks = p.clocks := by
  unfold Part.retimeEntry at h
  split at h
  · split at h <;> cases h
    rfl
  · cases h

@[simp] theorem Part.cancelEntry_clocks (num : CmdNum) : (p.cancelEntry num).clocks = p.clocks := by
  unfold Part.cancelEntry
  split <;> rfl

@[simp] theorem attemptSent_clocks (num : CmdNum) : (attemptSent num p).clocks = p.clocks := by
  unfold attemptSent
  repeat' split
  all_goals rfl

@[simp] theorem countOperation_clocks (target : Target) : (countOperation target p).clocks = p.clocks := by
  cases target <;> simp [countOperation]

@[simp] theorem sendEntry_clocks (e : Entry) : (sendEntry e p).1.clocks = p.clocks := by
  simp only [sendEntry]
  split <;> simp

@[simp] theorem judgeHead_clocks (e : Entry) : (judgeHead e p).1.clocks = p.clocks := by
  unfold judgeHead
  repeat' split
  all_goals simp

@[simp] theorem takeBack_clocks : (takeBack p).clocks = p.clocks := rfl

@[simp] theorem offerCopy_clocks (f : CommandFrame) (k : Port) : (offerCopy f k p).clocks = p.clocks := by
  unfold offerCopy
  split <;> simp

@[simp] theorem offerHeld_clocks (c : HeldCopy) : (offerHeld c p).clocks = p.clocks := by
  simp only [offerHeld]
  split <;> split <;> simp

@[simp] theorem handOver_clocks : (handOver p).1.clocks = p.clocks := by
  unfold handOver
  dsimp only
  repeat' split
  all_goals simp

@[simp] theorem entryDue_clocks (num : CmdNum) : (entryDue num p).1.clocks = p.clocks := by
  unfold entryDue
  repeat' split
  all_goals rfl

@[simp] theorem resolve_clocks (e o) : (resolve e o p).1.clocks = p.clocks := rfl
@[simp] theorem refuse_clocks (e r) : (refuse e r p).1.clocks = p.clocks := rfl
@[simp] theorem breakerEntries_clocks (b) : (breakerEntries b p).1.clocks = p.clocks := rfl
@[simp] theorem sourceEntries_clocks (s) : (sourceEntries s p).1.clocks = p.clocks := rfl

@[simp] theorem judgeBreakerEntry_clocks (num : CmdNum) : (judgeBreakerEntry num p).1.clocks = p.clocks := by
  unfold judgeBreakerEntry
  repeat' split
  all_goals rfl

@[simp] theorem judgeSourceEntry_clocks (num : CmdNum) : (judgeSourceEntry num p).1.clocks = p.clocks := by
  unfold judgeSourceEntry
  dsimp only
  repeat' split
  all_goals rfl

@[simp] theorem deadlineExpiry_clocks (num : CmdNum) : (deadlineExpiry num p).1.clocks = p.clocks := by
  unfold deadlineExpiry
  dsimp only
  repeat' split
  all_goals simp

/-! ### The Synchronising Unit -/

@[simp] theorem finishAttempt_clocks (a st r) : (finishAttempt a st r p).clocks = p.clocks := rfl
@[simp] theorem endAttempt_clocks (a st r) : (endAttempt a st r p).1.clocks = p.clocks := rfl

@[simp] theorem cancelAttemptEntry_clocks (a : AttemptRecord) : (cancelAttemptEntry a p).1.clocks = p.clocks := by
  unfold cancelAttemptEntry
  split <;> simp

@[simp] theorem breakOff_clocks (a st r) : (breakOff a st r p).1.clocks = p.clocks := by simp [breakOff]

@[simp] theorem arm_clocks (a : AttemptRecord) (tc : Nat) : (arm a tc p).1.clocks = p.clocks := by
  unfold arm
  split
  · next h => simpa using Part.insertEntry_clocks h
  · simp

@[simp] theorem retime_clocks (a : AttemptRecord) (tc : Nat) : (retime a tc p).1.clocks = p.clocks := by
  unfold retime
  split
  · rfl
  · split
    · rfl
    · split
      · next h => simpa using Part.retimeEntry_clocks h
      · simp

@[simp] theorem disarm_clocks (a : AttemptRecord) : (disarm a p).clocks = p.clocks := by simp [disarm]

@[simp] theorem evaluateAttempt_clocks (a : AttemptRecord) : (evaluateAttempt a p).1.clocks = p.clocks := by
  unfold evaluateAttempt
  dsimp only
  repeat' split
  all_goals simp

@[simp] theorem evaluate_clocks (pt : Point) : (evaluate pt p).1.clocks = p.clocks := by
  unfold evaluate
  repeat' split
  all_goals simp

@[simp] theorem startAttempt_clocks (b r i set c t n) : (startAttempt b r i set c t n p).1.clocks = p.clocks := by
  simp [startAttempt]

@[simp] theorem attemptEntry_clocks (num : CmdNum) (o : EntryOutcome) : (attemptEntry num o p).1.clocks = p.clocks := by
  unfold attemptEntry
  repeat' split
  all_goals rfl

@[simp] theorem syncLimitExpiry_clocks : (syncLimitExpiry p).1.clocks = p.clocks := by
  unfold syncLimitExpiry
  dsimp only
  repeat' split
  all_goals simp

@[simp] theorem timeQualityPoor_clocks : (timeQualityPoor p).1.clocks = p.clocks := by
  unfold timeQualityPoor
  repeat' split
  all_goals simp

@[simp] theorem abandonAttempt_clocks : (abandonAttempt p).clocks = p.clocks := by
  unfold abandonAttempt
  dsimp only
  repeat' split
  all_goals simp

/-! ### The Plan Executor, beside its guard -/

@[simp] theorem endStep_clocks (o) : (endStep o p).clocks = p.clocks := rfl
@[simp] theorem passStep_clocks (o) : (passStep o p).1.clocks = p.clocks := rfl

@[simp] theorem cancelQueued_clocks : (cancelQueued p).clocks = p.clocks := by simp [cancelQueued]

@[simp] theorem decideEnd_clocks (o) : (decideEnd o p).clocks = p.clocks := rfl

@[simp] theorem failNow_clocks (r : Reason) : (failNow r p).1.clocks = p.clocks := by simp [failNow]

@[simp] theorem failStep_clocks (serial step : Nat) (r : Reason) : (failStep serial step r p).1.clocks = p.clocks := by
  unfold failStep
  split <;> simp

@[simp] theorem placeEntryFor_clocks (target : Target) (action : Action) (group : Option Grp) :
    (placeEntryFor target action group p).1.clocks = p.clocks := by
  unfold placeEntryFor
  dsimp only
  split
  · rfl
  · split
    · rfl
    · next h => simpa using Part.insertEntry_clocks h

@[simp] theorem waitTimer_clocks (n) : (waitTimer n p).1.clocks = p.clocks := rfl

@[simp] theorem beginShedFit_clocks (s : Src) (buses : BusSet) : (beginShedFit s buses p).1.clocks = p.clocks := by
  unfold beginShedFit
  dsimp only
  repeat' split
  all_goals simp

@[simp] theorem beginSync_clocks (b : Breaker) (r i : Point) (set : Fin 4) :
    (beginSync b r i set p).1.clocks = p.clocks := by
  unfold beginSync
  repeat' split
  all_goals simp

@[simp] theorem beginKind_clocks (s : Step) : (beginKind s p).1.clocks = p.clocks := by
  cases s <;> simp only [beginKind, beginOpen, beginClose, beginRun, beginStop]
  all_goals repeat' split
  all_goals simp

@[simp] theorem shedNext_clocks (serial step : Nat) (gs : List Grp) :
    (shedNext serial step gs p).1.clocks = p.clocks := by
  unfold shedNext
  dsimp only
  repeat' split
  all_goals simp

@[simp] theorem beginStep_clocks (serial step : Nat) : (beginStep serial step p).1.clocks = p.clocks := by
  unfold beginStep
  repeat' split
  all_goals simp

@[simp] theorem nextStep_clocks (serial step : Nat) : (nextStep serial step p).1.clocks = p.clocks := by
  unfold nextStep
  dsimp only
  repeat' split
  all_goals rfl

@[simp] theorem windDown_clocks : (windDown p).1.clocks = p.clocks := by
  unfold windDown
  split
  · exact monitorIdle_clocks _
  · rfl

@[simp] theorem decideAborted_clocks : (decideAborted p).1.clocks = p.clocks := rfl

@[simp] theorem abandonStep_clocks : (abandonStep p).1.clocks = p.clocks := by
  unfold abandonStep
  split <;> simp

@[simp] theorem abort_clocks (cause : AbortCause) : (abort cause p).1.clocks = p.clocks := by
  unfold abort
  dsimp only
  repeat' split
  all_goals simp

@[simp] theorem settleAborted_clocks : (settleAborted p).1.clocks = p.clocks := by
  unfold settleAborted
  dsimp only
  repeat' split
  all_goals rfl

@[simp] theorem waitDeadCheck_clocks (pt : Point) : (waitDeadCheck pt p).1.clocks = p.clocks := by
  unfold waitDeadCheck
  repeat' split
  all_goals rfl

@[simp] theorem healthCheck_clocks (s : Src) : (healthCheck s p).1.clocks = p.clocks := by
  unfold healthCheck
  repeat' split
  all_goals rfl

@[simp] theorem runCheck_clocks (s : Src) : (runCheck s p).1.clocks = p.clocks := by
  unfold runCheck
  repeat' split
  all_goals simp

@[simp] theorem waitdeadTimeout_clocks : (waitdeadTimeout p).1.clocks = p.clocks := by
  unfold waitdeadTimeout
  repeat' split
  all_goals simp

@[simp] theorem dwellExpiry_clocks : (dwellExpiry p).1.clocks = p.clocks := by
  unfold dwellExpiry
  repeat' split
  all_goals rfl

@[simp] theorem waithealthyTimeout_clocks : (waithealthyTimeout p).1.clocks = p.clocks := by
  unfold waithealthyTimeout
  repeat' split
  all_goals simp

@[simp] theorem guardTripped_clocks : (guardTripped p).1.clocks = p.clocks := rfl

@[simp] theorem guardFailPlan_clocks : (guardFailPlan p).1.clocks = p.clocks := by
  unfold guardFailPlan
  dsimp only
  repeat' split
  all_goals simp

/-! ### The Source Supervisor -/

@[simp] theorem takeReading_clocks (pt : Point) (b : RawReading) : (takeReading pt b p).1.clocks = p.clocks := by
  unfold takeReading
  dsimp only
  repeat' split
  all_goals rfl

@[simp] theorem sourceReading_clocks (s : Src) (r : Reading) : (sourceReading s r p).1.clocks = p.clocks := by
  unfold sourceReading
  dsimp only
  repeat' split
  all_goals rfl

@[simp] theorem pointBlind_clocks (pt : Point) : (pointBlind pt p).1.clocks = p.clocks := by
  unfold pointBlind
  dsimp only
  repeat' split
  all_goals rfl

@[simp] theorem pickupExpiry_clocks (s : Src) : (pickupExpiry s p).1.clocks = p.clocks := by
  unfold pickupExpiry
  dsimp only
  repeat' split
  all_goals rfl

@[simp] theorem takeGenstat_clocks (s : Src) (b : GenReport) : (takeGenstat s b p).1.clocks = p.clocks := by
  unfold takeGenstat
  split <;> rfl

@[simp] theorem sourceChanged_clocks (s) : (sourceChanged s p).1.clocks = p.clocks := rfl
@[simp] theorem genChanged_clocks (s replaced loadChanged) :
    (genChanged s replaced loadChanged p).1.clocks = p.clocks := rfl

/-! ### Management and the Load Manager, beside its stages -/

@[simp] theorem takeForeign_clocks : (takeForeign p).1.clocks = p.clocks := rfl
@[simp] theorem respondOperate_clocks (m num) : (respondOperate m num p).1.clocks = p.clocks := rfl
@[simp] theorem load_clocks : (load p).1.clocks = p.clocks := rfl
@[simp] theorem shedMark_clocks (g) : (shedMark g p).1.clocks = p.clocks := rfl

@[simp] theorem capacityShort_clocks : (capacityShort p).1.clocks = p.clocks := by
  unfold capacityShort
  split <;> simp

end

end Sys2Proof.Machine
end

section
/-! SUPPORT. The requests leave the clocks as they are, but for a group that RESTORE_GROUP asks for. -/

namespace Sys2Proof.Machine

section

variable (p : Part)

/-- A write leaves the clocks where it leaves them when it is applied (R189). -/
theorem writeWith_clocks {α : Type} {m : Sender} {table first count : Nat} {rows : Judged (List α)}
    {whole : List α → Option RefusedReason} {apply : List α → Res} (h : ∀ ks, (apply ks).1.clocks = p.clocks) :
    (writeWith m table first count p rows whole apply).1.clocks = p.clocks :=
  writeWith_keeps (fun q => q.clocks = p.clocks) rfl fun ks _ _ _ => h ks

@[simp] theorem applyLive_clocks (row : Nat) (k : LiveRow) : (applyLive row k p).clocks = p.clocks := by
  cases k <;> simp only [applyLive]
  case point => split <;> rfl
  all_goals rfl

@[simp] theorem applyLives_clocks (ks : List LiveRow) (row : Nat) : (applyLives ks row p).clocks = p.clocks := by
  induction ks generalizing row p with
  | nil => rfl
  | cons k ks ih => exact (ih ..).trans (applyLive_clocks ..)

@[simp] theorem applyMap_clocks (ks : List UnitMapRow) (i : Nat) : (applyMap ks i p).1.clocks = p.clocks := by
  induction ks generalizing i p with
  | nil => rfl
  | cons k ks ih =>
    simp only [applyMap]
    split
    · exact ih ..
    · rfl

@[simp] theorem rekindAll_clocks (old : Topology) (ss : List Src) : (rekindAll old ss p).1.clocks = p.clocks := by
  induction ss generalizing p with
  | nil => rfl
  | cons s ss ih => exact ih _

@[simp] theorem applyTopology_clocks (t : Topology) : (applyTopology t p).1.clocks = p.clocks :=
  rekindAll_clocks { p with topology := t } p.topology allSrcs

@[simp] theorem clearTallies_clocks (first count : Nat) : (clearTallies first count p).clocks = p.clocks := by
  simp only [clearTallies]
  split <;> split <;> rfl

@[simp] theorem requestOperate_clocks (m : Sender) (n : Nat) (a : Option Action) :
    (requestOperate m n a p).1.clocks = p.clocks := by
  unfold requestOperate
  split
  · rfl
  · split
    · rfl
    · rfl
    · split
      · next h => exact Part.insertEntry_clocks h
      · rfl

/-- Every request but RESTORE_GROUP leaves the clocks as they are. -/
theorem carryOut_clocks (m : Sender) {r : Request} (h : ∀ g, r ≠ .restoreGroup g) :
    (carryOut m r p).1.clocks = p.clocks := by
  cases r <;> simp only [carryOut]
  case restoreGroup g => exact absurd rfl (h g)
  case writeRows => exact writeWith_clocks p fun _ => applyLives_clocks ..
  case writeUnitMap => exact writeWith_clocks p fun _ => applyMap_clocks ..
  case writeTopology => exact writeWith_clocks p fun _ => applyTopology_clocks ..
  case writeBreakerSettings =>
    exact writeWith_clocks p fun _ => foldl_clocks _ (fun q b => q.judgeService_clocks b) _
  case clearPortTallies => exact writeWith_clocks p fun _ => clearTallies_clocks ..
  case writeTemplates => exact writeWith_clocks p fun _ => rfl
  case writeCandidateLists => exact writeWith_clocks p fun _ => rfl
  case writeSourceSettings => exact writeWith_clocks p fun _ => rfl
  case writeBusSettings => exact writeWith_clocks p fun _ => rfl
  case writeGroupTable => exact writeWith_clocks p fun _ => rfl
  case ackConditions =>
    unfold requestAck
    split
    · rfl
    · exact (foldl_clocks _ (fun q f => q.raiseFlag_clocks f) _).trans
        (foldl_clocks p (fun q f => q.clearFlag_clocks f) _)
  case operate => exact requestOperate_clocks ..
  case unknown => rfl
  all_goals
    simp only [readRows, requestStart, requestHalt, requestTemplate, requestConfirm, requestSetChannel,
      requestClearFaults, requestServiceOut, requestServiceIn, requestClearLockout, requestResetBreaker,
      requestIdentify, requestRestart]
    repeat' split
    all_goals rfl

end

end Sys2Proof.Machine
end

section
/-! PROOF. O14: every step keeps the holdover, guard and load timers running in their states only. -/

namespace Sys2Proof.Machine

/-! ### Whether a timer runs (R27) -/

@[simp] theorem Timer.isRunning_stopped : Timer.stopped.isRunning = false := rfl

@[simp] theorem Timer.isRunning_count (n : Nat) (t : Timer) : (t.count n).isRunning = t.isRunning := by cases t <;> rfl

/-- A timer that follows a condition runs while it holds. -/
@[simp] theorem Timer.isRunning_follow (holds : Bool) (d : Nat) (t : Timer) : (t.follow holds d).isRunning = holds := by
  cases holds with
  | false => rfl
  | true =>
    simp only [Timer.follow, if_true]
    split
    · assumption
    · rfl

/-! ### The law, one place at a time -/

/-- The holdover timer runs in HOLDOVER (R26). -/
def TimeBase.timerAgrees (t : TimeBase) : Prop := t.holdover.isRunning = (t.state == .holdover)

/-- The guard timer runs in RUNNING (R134). -/
def GuardRecord.timerAgrees (g : GuardRecord) : Prop := g.timer.isRunning = (g.state == .running)

theorem Part.timersAgree_iff (p : Part) :
    p.timersAgree ↔ p.time.timerAgrees ∧ p.guard.timerAgrees ∧ ∀ x, (p.stage x).timersAgree := Iff.rfl

theorem Part.timersAgree_of_clocks {p q : Part} (h : q.clocks = p.clocks) (hp : p.timersAgree) : q.timersAgree := by
  simp only [Part.clocks, Prod.mk.injEq] at h
  obtain ⟨⟨hstate, hholdover⟩, hguard, hstages⟩ := h
  unfold Part.timersAgree Part.stage at *
  rwa [hstate, hholdover, hguard, hstages]

section

variable {p : Part} (hp : p.timersAgree)
include hp

theorem setTime_timersAgree {t : TimeBase} (ht : t.timerAgrees) : (p.setTime t).timersAgree := by
  obtain ⟨_, hguard, hstages⟩ := p.timersAgree_iff.mp hp
  exact (Part.timersAgree_iff _).mpr ⟨ht, hguard, hstages⟩

theorem setGuard_timersAgree {g : GuardRecord} (hg : g.timerAgrees) : { p with guard := g }.timersAgree := by
  obtain ⟨htime, _, hstages⟩ := p.timersAgree_iff.mp hp
  exact (Part.timersAgree_iff _).mpr ⟨htime, hg, hstages⟩

theorem setStage_timersAgree {x : Bus} {r : LoadStage} (hr : r.timersAgree) : (p.setStage x r).timersAgree := by
  obtain ⟨htime, hguard, hstages⟩ := p.timersAgree_iff.mp hp
  refine (Part.timersAgree_iff _).mpr ⟨htime, hguard, fun y => ?_⟩
  rw [Part.stage_setStage]
  split
  · exact hr
  · exact hstages y

theorem stage_timersAgree (x : Bus) : (p.stage x).timersAgree := hp.2.2 x

/-! ### The Time Base (R21–R26) -/

omit hp in
@[simp] theorem stepTime_clocks (target : Nat) : (stepTime target p).1.clocks = p.clocks := rfl

omit hp in
@[simp] theorem Part.slew_clocks (e : Int) : (p.slew e).clocks = p.clocks := rfl

omit hp in
@[simp] theorem timeLocked_clocks (target : Nat) (e : Int) : (timeLocked target e p).1.clocks = p.clocks := by
  unfold timeLocked
  dsimp only
  repeat' split
  all_goals simp

theorem timeFrame_timersAgree {master : Nat} : (timeFrame master p).1.timersAgree := by
  have ht : p.time.timerAgrees := hp.1
  unfold TimeBase.timerAgrees at ht
  unfold timeFrame
  dsimp only
  split
  · exact hp
  · split
    case h_1 hs => exact setTime_timersAgree hp (ht.trans (by simp [hs]))
    case h_2 hs =>
      split
      · exact setTime_timersAgree hp (ht.trans (by simp [hs]))
      · exact Part.timersAgree_of_clocks (stepTime_clocks _) hp
    case h_3 => exact Part.timersAgree_of_clocks (timeLocked_clocks ..) hp
    case h_4 => exact Part.timersAgree_of_clocks (timeLocked_clocks ..) (setTime_timersAgree hp rfl)

theorem masterGone_timersAgree : (masterGone p).1.timersAgree := by
  have ht : p.time.timerAgrees := hp.1
  unfold TimeBase.timerAgrees at ht
  unfold masterGone
  dsimp only
  split
  case h_1 => exact setTime_timersAgree hp rfl
  case h_2 hs => exact setTime_timersAgree hp (ht.trans (by simp [hs]))
  all_goals exact hp

theorem holdoverExpiry_timersAgree : (holdoverExpiry p).1.timersAgree := by
  unfold holdoverExpiry
  dsimp only
  split
  · split
    · exact Part.timersAgree_of_clocks (Part.raiseFlag_clocks ..) (setTime_timersAgree hp rfl)
    · next hs => exact setTime_timersAgree hp (by simp [TimeBase.timerAgrees, hs])
  · exact hp

omit hp in
theorem LoadStage.count_timersAgree {r : LoadStage} (hr : r.timersAgree) (n : Nat) :
    LoadStage.timersAgree
      { r with
        freqTimer := r.freqTimer.count n
        capTimer := r.capTimer.count n
        settle := r.settle.count n
        stagger := r.stagger.count n } := by
  simpa [LoadStage.timersAgree] using hr

/-- Timers that count run on, and stopped ones stay stopped (R27). -/
theorem count_timersAgree : p.count.timersAgree := by
  obtain ⟨htime, hguard, hstages⟩ := hp
  refine ⟨(Timer.isRunning_count ..).trans htime, (Timer.isRunning_count ..).trans hguard, fun x => ?_⟩
  cases x
  · exact LoadStage.count_timersAgree (hstages .a) 1
  · exact LoadStage.count_timersAgree (hstages .b) 1

theorem slewInstant_timersAgree : (slewInstant p).1.timersAgree := by
  simp only [slewInstant]
  split
  · split
    · exact count_timersAgree (p := p.setTime _) hp
    · exact hp
  · exact hp

theorem tick_timersAgree : p.tick.timersAgree := by
  simp only [Part.tick]
  split <;> split
  · exact count_timersAgree (p := p.setTime _) hp
  · exact hp
  · exact count_timersAgree (p := p.setTime _) hp
  · exact hp

theorem unitGone_timersAgree {role : Role} : (unitGone role p).1.timersAgree := by
  cases role
  case timeMaster => exact masterGone_timersAgree hp
  case breaker => exact Part.timersAgree_of_clocks (breakerGone_clocks ..) hp
  all_goals exact hp

omit hp in
theorem restarted_timersAgree : p.restarted.timersAgree :=
  ⟨rfl, rfl, fun x => by cases x <;> exact ⟨rfl, rfl, rfl⟩⟩

omit hp in
theorem restart_timersAgree : (restart p).1.timersAgree :=
  Part.timersAgree_of_clocks (foldl_clocks _ (fun q f => q.setIfStanding_clocks f) _) restarted_timersAgree

/-! ### The parallel guard (R134–R137) -/

theorem judgeGuard_timersAgree {b : Breaker} {r i : Point} {set : Fin 4} :
    (judgeGuard b r i set p).timersAgree := by
  unfold judgeGuard
  dsimp only
  split
  · exact setGuard_timersAgree hp rfl
  · exact hp

theorem endGuard_timersAgree {mark : GuardMark} : (endGuard mark p).timersAgree :=
  setGuard_timersAgree hp (g := { p.guard with state := .absent, timer := .stopped, trip := none }) rfl

theorem guardFeed_timersAgree : (guardFeed p).1.timersAgree := by
  unfold guardFeed
  dsimp only
  split
  · exact endGuard_timersAgree hp
  · exact endGuard_timersAgree hp
  · exact hp

theorem guardExpiry_timersAgree : (guardExpiry p).1.timersAgree := by
  unfold guardExpiry
  split
  · exact setGuard_timersAgree (Part.timersAgree_of_clocks (p.insertGuard_clocks ..) hp) rfl
  · exact hp

theorem guardEntry_timersAgree {num : CmdNum} {serial : Nat} {o : EntryOutcome} :
    (guardEntry num serial o p).1.timersAgree := by
  simp only [guardEntry]
  split
  · exact endGuard_timersAgree (p := p.updateRecord ..) hp
  · exact hp

theorem reportEntry_timersAgree {e : Entry} {o : EntryOutcome} : (reportEntry e o p).1.timersAgree := by
  unfold reportEntry
  split
  case h_3 => exact guardEntry_timersAgree hp
  all_goals exact hp

theorem endParallel_timersAgree {s : Step} : (endParallel s p).timersAgree := by
  unfold endParallel
  split
  · split
    · exact endGuard_timersAgree hp
    · exact hp
  · exact hp

theorem entryConfirmed_timersAgree {s : Step} {told : List Task} : (entryConfirmed s told p).1.timersAgree := by
  have hend := endParallel_timersAgree (p := endStep .done p) (s := s) hp
  unfold entryConfirmed
  dsimp only
  split
  · split
    · exact hend
    · exact hp
  · exact hp

theorem entryAborting_timersAgree {s : Step} {r : Option Reason} {told : List Task} :
    (entryAborting s r told p).1.timersAgree := by
  have hs := Part.timersAgree_of_clocks
    (settleAborted_clocks (p.setExec { p.exec with stepFailed := p.exec.stepFailed <|> r })) hp
  simp only [entryAborting]
  split
  · exact endParallel_timersAgree hs
  · exact hs

theorem stepEntry_timersAgree {num : CmdNum} {owner : Owner} {o : EntryOutcome} :
    (stepEntry num owner o p).1.timersAgree := by
  have hq (v : ExecRecord) (f : StepRecord → StepRecord) : ((p.setExec v).updateStep f).timersAgree :=
    Part.timersAgree_of_clocks (Part.updateStep_clocks ..) hp
  unfold stepEntry
  dsimp only
  split
  · split
    · split
      · exact hq _ _
      · split
        · split
          · exact entryConfirmed_timersAgree (hq _ _)
          · split
            · exact Part.timersAgree_of_clocks (failNow_clocks ..) (hq _ _)
            · exact hq _ _
        · exact entryAborting_timersAgree (hq _ _)
    · exact hp
  · exact hp

theorem attemptDone_timersAgree : (attemptDone p).1.timersAgree := by
  unfold attemptDone
  dsimp only
  split
  · split
    · split
      · exact judgeGuard_timersAgree (p := endStep .done p) hp
      · split
        · exact judgeGuard_timersAgree (p := endStep .done p) hp
        · exact judgeGuard_timersAgree (p := endStep .done p) hp
    · split
      · exact Part.timersAgree_of_clocks (failNow_clocks ..) hp
      · split <;> exact hp
  · exact hp

/-! ### The load stages (R175–R183) -/

omit hp in
theorem LoadStage.stopRestore_timersAgree {r : LoadStage} (hr : r.timersAgree) : r.stopRestore.timersAgree :=
  ⟨hr.1, rfl, rfl⟩

omit hp in
theorem LoadStage.startStagger_timersAgree {r : LoadStage} (hr : r.timersAgree) (n : Nat) :
    (r.startStagger n).timersAgree :=
  ⟨hr.1, rfl, rfl⟩

omit hp in
theorem LoadStage.endRaise_timersAgree {r : LoadStage} (hr : r.timersAgree) : r.endRaise.timersAgree := by
  obtain ⟨hshed, hrestore⟩ := hr
  unfold LoadStage.endRaise
  split
  · next h => exact ⟨hshed.trans (by simp [h]), hrestore⟩
  · exact ⟨hshed, hrestore⟩

omit hp in
/-- The shed stage is TIMING while a cause holds, which its timers follow (R178). -/
theorem followShed_timersAgree {r : LoadStage} (hr : r.timersAgree) (x : Bus) : (p.followShed x r).timersAgree := by
  refine ⟨?_, hr.2⟩
  simp only [Part.followShed, Timer.isRunning_follow]
  cases p.frequencyCause x || p.capacityCause x <;> rfl

theorem shedNow_timersAgree {x : Bus} : (shedNow x p).1.timersAgree :=
  setStage_timersAgree hp ⟨rfl, (stage_timersAgree hp x).2⟩

theorem shedStage_timersAgree {x : Bus} : (shedStage x p).1.timersAgree := by
  have hf := setStage_timersAgree hp (x := x) (followShed_timersAgree (p := p) (stage_timersAgree hp x) x)
  unfold shedStage
  dsimp only
  split
  · exact hp
  · split
    · exact shedNow_timersAgree hf
    · exact hf

theorem frequencyExpiry_timersAgree {x : Bus} : (frequencyExpiry x p).1.timersAgree := by
  unfold frequencyExpiry
  split
  · exact shedNow_timersAgree hp
  · exact hp

theorem capacityExpiry_timersAgree {x : Bus} : (capacityExpiry x p).1.timersAgree := by
  unfold capacityExpiry
  split
  · exact shedNow_timersAgree hp
  · exact hp

theorem restoreStage_timersAgree {x : Bus} : (restoreStage x p).1.timersAgree := by
  have hr := stage_timersAgree hp x
  have ⟨hshed, _, hstagger⟩ := hr
  have hstop := setStage_timersAgree hp (x := x) (LoadStage.stopRestore_timersAgree hr)
  unfold restoreStage
  dsimp only
  split
  · next h =>
    split
    · exact setStage_timersAgree hp ⟨hshed, rfl, hstagger.trans (by simp [h])⟩
    · exact hp
  all_goals
    split
    · exact hp
    · exact hstop

theorem shedRaised_timersAgree {x : Bus} : (shedRaised x p).1.timersAgree :=
  restoreStage_timersAgree (setStage_timersAgree hp (LoadStage.stopRestore_timersAgree (stage_timersAgree hp x)))

theorem settleExpiry_timersAgree {x : Bus} : (settleExpiry x p).1.timersAgree := by
  have hr := stage_timersAgree hp x
  have ⟨hshed, _, hstagger⟩ := hr
  unfold settleExpiry
  dsimp only
  split
  · split
    · exact setStage_timersAgree hp (LoadStage.startStagger_timersAgree hr _)
    · next h => exact setStage_timersAgree hp ⟨hshed, by simp [h], hstagger⟩
  · exact hp

/-- A stage that staggers has its settle timer stopped, so that it may become RAISED with its stagger timer (R182). -/
theorem judgeCandidate_timersAgree {x : Bus} (h : (p.stage x).restore = .staggering) :
    (judgeCandidate x p).1.timersAgree := by
  have hr := stage_timersAgree hp x
  have ⟨hshed, hsettle, _⟩ := hr
  have hblocked (g : Grp) (reason : BlockReason) : (restoreBlocked x g reason p).timersAgree :=
    Part.timersAgree_of_clocks (Part.raiseFlag_clocks ..)
      (setStage_timersAgree hp (LoadStage.startStagger_timersAgree hr _))
  unfold judgeCandidate
  dsimp only
  split
  · exact setStage_timersAgree hp (LoadStage.stopRestore_timersAgree hr)
  · split
    · exact setStage_timersAgree hp ⟨hshed, rfl, rfl⟩
    · split
      · exact hblocked _ _
      · split
        · exact hblocked _ _
        · exact setStage_timersAgree hp ⟨hshed, hsettle.trans (by simp [h]), rfl⟩

theorem staggerExpiry_timersAgree {x : Bus} : (staggerExpiry x p).1.timersAgree := by
  obtain ⟨hshed, hsettle, _⟩ := stage_timersAgree hp x
  unfold staggerExpiry
  dsimp only
  split
  · split
    · next h => exact judgeCandidate_timersAgree hp h
    · next h => exact setStage_timersAgree hp ⟨hshed, hsettle, by simp [h]⟩
  · exact hp

theorem restoreOutcome_timersAgree {c : Channel} : (restoreOutcome c p).1.timersAgree := by
  have hx (x : Bus) {q : Part} (hq : q.timersAgree) : Part.timersAgree
      (match (q.stage x).restore, (q.stage x).raisedOn with
        | .raised, some y =>
          if c = .restore y then
            q.setStage x
              (if q.restoreHolds x then (q.stage x).startStagger (q.busSet x).stagger else (q.stage x).stopRestore)
          else q
        | _, _ => q) := by
    have hr := stage_timersAgree hq x
    split
    · split
      · split
        · exact setStage_timersAgree hq (LoadStage.startStagger_timersAgree hr _)
        · exact setStage_timersAgree hq (LoadStage.stopRestore_timersAgree hr)
      · exact hq
    · exact hq
  exact hx .b (hx .a hp)

theorem loadOutcome_timersAgree {c : Channel} : (loadOutcome c p).1.timersAgree := by
  cases c
  case shed x => exact setStage_timersAgree hp (LoadStage.endRaise_timersAgree (stage_timersAgree hp x))
  all_goals exact hp

theorem loadStart_timersAgree : (loadStart p).1.timersAgree := by
  have hreset {r : LoadStage} (hr : r.timersAgree) :
      (if r.restore = .raised then r.endRaise.stopRestore else r.endRaise).timersAgree := by
    split
    · exact LoadStage.stopRestore_timersAgree (LoadStage.endRaise_timersAgree hr)
    · exact LoadStage.endRaise_timersAgree hr
  have ha := setStage_timersAgree hp (x := .a) (hreset (stage_timersAgree hp .a))
  exact setStage_timersAgree ha (x := .b) (hreset (stage_timersAgree ha .b))

theorem takeRequested_timersAgree {c : Channel} : (takeRequested c p).timersAgree := by
  cases c
  case restore y => exact setStage_timersAgree hp (stage_timersAgree hp y)
  all_goals exact hp

theorem select_timersAgree {c : Channel} : (select c p).1.timersAgree := by
  have ht := takeRequested_timersAgree (c := c) (p := { p with selection := some (p.choosePlan c).record }) hp
  unfold select
  dsimp only
  split
  · exact ht
  · split
    · exact Part.timersAgree_of_clocks (Part.raiseFlag_clocks ..) ht
    · exact ht

theorem requestRestoreGroup_timersAgree {m : Sender} {n : Nat} : (requestRestoreGroup m n p).1.timersAgree := by
  unfold requestRestoreGroup
  dsimp only
  split
  · exact hp
  · split
    · exact hp
    · split
      · exact hp
      · exact setStage_timersAgree hp (stage_timersAgree hp _)

theorem takeRequest_timersAgree {m : Sender} {r : Request} : (takeRequest m r p).1.timersAgree := by
  have hc : p.countRequest.timersAgree := hp
  by_cases h : ∃ g, r = .restoreGroup g
  · obtain ⟨g, rfl⟩ := h
    exact requestRestoreGroup_timersAgree hc
  · exact Part.timersAgree_of_clocks (carryOut_clocks _ m fun g e => h ⟨g, e⟩) hc

end

/-! ### Every hand-off -/

/-- A hand-off that may change a clock (R21–R26, R134–R137, R175–R183, R196). -/
def Task.setsClocks : Task → Bool
  | .timeFrame _ | .holdoverExpiry | .slewInstant | .unitGone _ | .request .. | .restart => true
  | .guardExpiry | .guardFeed | .stepEntry .. | .reportEntry .. | .attemptDone => true
  | .frequencyExpiry _ | .capacityExpiry _ | .settleExpiry _ | .staggerExpiry _ | .shedStage _ | .shedRaised _ => true
  | .restoreStage _ | .loadOutcome _ | .restoreOutcome _ | .loadStart | .select _ => true
  | _ => false

theorem runTask_clocks {t : Task} (ht : t.setsClocks = false) (p : Part) : (runTask t p).1.clocks = p.clocks := by
  cases t <;> simp [Task.setsClocks] at ht <;> simp [runTask]

theorem runTask_timersAgree (t : Task) (p : Part) (hp : p.timersAgree) : (runTask t p).1.timersAgree := by
  by_cases ht : t.setsClocks = false
  · exact Part.timersAgree_of_clocks (runTask_clocks ht p) hp
  · cases t <;> try exact absurd rfl ht
    case timeFrame => exact timeFrame_timersAgree hp
    case holdoverExpiry => exact holdoverExpiry_timersAgree hp
    case slewInstant => exact slewInstant_timersAgree hp
    case unitGone => exact unitGone_timersAgree hp
    case request => exact takeRequest_timersAgree hp
    case restart => exact restart_timersAgree
    case guardExpiry => exact guardExpiry_timersAgree hp
    case guardFeed => exact guardFeed_timersAgree hp
    case stepEntry => exact stepEntry_timersAgree hp
    case reportEntry => exact reportEntry_timersAgree hp
    case attemptDone => exact attemptDone_timersAgree hp
    case frequencyExpiry => exact frequencyExpiry_timersAgree hp
    case capacityExpiry => exact capacityExpiry_timersAgree hp
    case settleExpiry => exact settleExpiry_timersAgree hp
    case staggerExpiry => exact staggerExpiry_timersAgree hp
    case shedStage => exact shedStage_timersAgree hp
    case shedRaised => exact shedRaised_timersAgree hp
    case restoreStage => exact restoreStage_timersAgree hp
    case loadOutcome => exact loadOutcome_timersAgree hp
    case restoreOutcome => exact restoreOutcome_timersAgree hp
    case loadStart => exact loadStart_timersAgree hp
    case select => exact select_timersAgree hp

/-- Settles O14: every hand-off, the clock and POWER_ON keep the three kinds of timer with their states. -/
theorem stepsKeepTimersWithTheirStates : Obligations.StepsKeepTimersWithTheirStates :=
  step_keeps Part.timersAgree runTask_timersAgree
    (fun straps _ => Part.timersAgree_of_clocks rfl (powerOn_timersAgree straps))
    (fun _ hp => tick_timersAgree hp) (fun _ _ hp => hp)

end Sys2Proof.Machine
end

section
/-! PROOF. O3: what the block does in a step with no command waiting. -/

namespace Sys2Proof.Machine

theorem step_idle {s : State} (h : s.pending = []) : step s = .next s.idle := by
  unfold step
  rw [h]

/-- A calm block in which nothing expires counts its clock (R19, R27). -/
theorem idle_of_none {s : State} (hc : s.calm) (he : s.part.expiries = []) :
    s.idle = { s with part := s.part.tick } := by
  have hw : s.work = [] := hc
  simp [State.idle, hw, he]

/-- One expiry that is due becomes the next command (R27). -/
theorem idle_of_one {s : State} {c : Instr} (hc : s.calm) (he : s.part.expiries = [c]) :
    s.idle = { s with pending := [c] } := by
  have hw : s.work = [] := hc
  simp [State.idle, hw, he]

theorem Part.tick_still {p : Part} (hc : p.time.correction = 0) (hw : p.time.withhold = 0) : p.tick = p.count := by
  simp [Part.tick, hc, hw, Part.setTime]

/-- While a slew has counts to withhold, the clock withholds one (R23). -/
theorem Part.tick_withheld {p : Part} (hc : p.time.correction = 0) (hw : p.time.withhold ≠ 0) :
    p.tick = p.setTime { p.time with withhold := p.time.withhold - 1 } := by
  simp [Part.tick, hc, hw]

/-- Settles O3: no expiry is a tick of the clock, and one expiry is the next command. -/
theorem idleBlockCountsItsClock : Obligations.IdleBlockCountsItsClock := by
  intro s hp hs
  rw [step_idle hp]
  refine ⟨fun he hc hw => ?_, fun he hc hw => ?_, fun c he => ?_⟩
  · rw [idle_of_none hs he, Part.tick_still hc hw]
  · rw [idle_of_none hs he, Part.tick_withheld hc hw]
  · rw [idle_of_one hs he]

end Sys2Proof.Machine
end

section
/-! PROOF. O25: the three tests of R32, of which the first that applies counts the reading. -/

namespace Sys2Proof.Machine

theorem staleStamp_iff {last : Option Nat} {stamp : Nat} :
    staleStamp last stamp = true ↔ ∃ t, last = some t ∧ stamp ≤ t := by
  cases last <;> simp [staleStamp]

/-- The event of a numbered part's hand-off that hands off nothing. -/
theorem stationEvent_of_no_task {s : State} {t : Task} {q : Part} (hs : s.serves) (h : runTask t s.part = (q, [])) :
    s.stationEvent t = { s with part := q } :=
  stationEvent_of_drains hs (drains_single h (drains_nil q)) (by decide)

/-- Settles O25: each clause is the branch of its test, the earlier ones having passed. -/
theorem discardedReadingsAreCounted : Obligations.DiscardedReadingsAreCounted := by
  intro s pt b hs q isTest isFuture
  refine ⟨fun ht => ?_, fun ht hf => ?_, fun ht hf hold => ?_⟩ <;>
    refine congrArg Host.Outcome.next (stationEvent_of_no_task hs ?_)
  · exact if_pos ht
  · exact (if_neg (ne_true_of_eq_false ht)).trans (if_pos hf)
  · exact (if_neg (ne_true_of_eq_false ht)).trans
      ((if_neg (ne_true_of_eq_false hf)).trans (if_pos (staleStamp_iff.mpr hold)))

end Sys2Proof.Machine
end

section
/-! PROOF. O22 and O23: what a TIME frame does in each time state. -/

namespace Sys2Proof.Machine

/-- The event of a TIME frame that hands off nothing. -/
theorem exec_timeFrame_of_no_task {s : State} {master : Stamp} {q : Part} (hs : s.serves)
    (h : timeFrame master.toNat s.part = (q, [])) : exec (.timeFrame master) s = .next { s with part := q } :=
  congrArg Host.Outcome.next (stationEvent_of_no_task hs h)

/-- The event of a TIME frame that steps station time while no entry waits, so that the hand-over behind the step has
nothing to judge (R25, R161). -/
theorem exec_timeFrame_of_stepTime {s : State} {master : Stamp} {q : Part} {target : Nat} (hs : s.serves)
    (h : timeFrame master.toNat s.part = stepTime target q) (hq : q.scheduleEmpty) :
    exec (.timeFrame master) s = .next { s with part := q.setTime (q.time.stepped target) } := by
  refine congrArg Host.Outcome.next (stationEvent_of_drains hs (n := 2) (drains_cons ?_) (by decide))
  rw [runTask, h]
  exact drains_handOver_empty (p := q.setTime _) hq

section

variable {p : Part} {master target : Nat} (ht : master + p.time.settings.transit = target)
include ht

theorem timeFrame_range (hr : lastInstant < target) :
    timeFrame master p = (p.setTime { p.time with rangeTally := tick16 p.time.rangeTally }, []) := by
  subst ht
  exact if_pos hr

variable (hr : target ≤ lastInstant)
include hr

theorem timeFrame_unsynced (hs : p.time.state = .unsynced) :
    timeFrame master p = stepTime target (p.setTime { p.time.taken target with state := .locking }) := by
  subst ht
  simp only [timeFrame, if_neg (Nat.not_lt.mpr hr), hs]
  rfl

theorem timeFrame_locking_far (hs : p.time.state = .locking)
    (he : p.time.settings.lockBand < ((target : Int) - (p.time.now : Int)).natAbs) :
    timeFrame master p = stepTime target (p.setTime (p.time.taken target)) := by
  subst ht
  simp only [timeFrame, if_neg (Nat.not_lt.mpr hr), hs, if_neg (Nat.not_le.mpr he), TimeBase.taken, Part.setTime]

theorem timeFrame_locking_near (hs : p.time.state = .locking)
    (he : ((target : Int) - (p.time.now : Int)).natAbs ≤ p.time.settings.lockBand) :
    timeFrame master p =
      ({ p with
         time :=
          { (p.time.taken target).slewing ((target : Int) - (p.time.now : Int)) p.freeCount with
            state := .locked
            everLocked := true }
         freeCount := p.freeCount + 1 }, []) := by
  subst ht
  simp only [timeFrame, if_neg (Nat.not_lt.mpr hr), hs, if_pos he]
  rfl

/-- A TIME frame in LOCKED or HOLDOVER goes by one rule once the state is LOCKED (R24, R26). -/
theorem timeFrame_locked (hs : p.time.state = .locked ∨ p.time.state = .holdover) :
    timeFrame master p = timeLocked target ((target : Int) - (p.time.now : Int))
      (p.setTime
        { p.time.taken target with
          state := .locked
          holdover := if p.time.state = .holdover then .stopped else p.time.holdover }) := by
  subst ht
  rcases hs with hs | hs <;> simp only [timeFrame, if_neg (Nat.not_lt.mpr hr), hs] <;> rfl

end

theorem timeLocked_near {p : Part} {target : Nat} {e : Int} (he : e.natAbs ≤ p.time.settings.stepThreshold) :
    timeLocked target e p = ((p.slew e).setTime { (p.slew e).time with stepDeferred := false }, []) := if_pos he

theorem timeLocked_stepped {p : Part} {target : Nat} {e : Int} (he : p.time.settings.stepThreshold < e.natAbs)
    (hq : p.quiet = true) : timeLocked target e p = stepTime target p := by
  simp only [timeLocked, if_neg (Nat.not_le.mpr he), hq, if_true]

theorem timeLocked_deferred {p : Part} {target : Nat} {e : Int} (he : p.time.settings.stepThreshold < e.natAbs)
    (hq : p.quiet = false) :
    timeLocked target e p =
      (if p.time.stepDeferred then (p.slew e).setTime { (p.slew e).time with stepDeferred := true }
        else ((p.slew e).setTime { (p.slew e).time with stepDeferred := true }).raiseFlag .timeStepDeferred, []) := by
  simp only [timeLocked, if_neg (Nat.not_le.mpr he), hq, Bool.false_eq_true, if_false]
  rfl

/-- Settles O22: the rule of the time state takes the frame, and the hand-over behind a step has nothing to judge. -/
theorem timeFrameBeforeLock : Obligations.TimeFrameBeforeLock := by
  intro s master hs he t target e
  refine ⟨fun hr => ?_, fun hr hu => ?_, fun hr hl hfar => ?_, fun hr hl hnear => ?_⟩
  · exact exec_timeFrame_of_no_task hs (timeFrame_range rfl hr)
  · exact exec_timeFrame_of_stepTime hs (timeFrame_unsynced rfl hr hu) he
  · exact exec_timeFrame_of_stepTime hs (timeFrame_locking_far rfl hr hl (Int.ofNat_lt.mp hfar)) he
  · exact exec_timeFrame_of_no_task hs (timeFrame_locking_near rfl hr hl (Int.ofNat_le.mp hnear))

/-- Settles O23: in LOCKED and, once it is LOCKED again, in HOLDOVER the size of the error decides. -/
theorem timeFrameWhileLocked : Obligations.TimeFrameWhileLocked := by
  intro s master hs hheld hstate t target e u slewed hr
  have hframe := timeFrame_locked (p := s.part) rfl hr hstate
  refine ⟨fun hnear => ?_, fun hfar hq => ?_, fun hfar hq => ?_⟩
  · exact exec_timeFrame_of_no_task hs (hframe.trans (timeLocked_near hnear))
  · have hquiet : (s.part.setTime u).quiet = true := hq
    have hempty : s.part.scheduleEmpty := by
      simp only [Part.quiet, Bool.and_eq_true, List.isEmpty_iff] at hq
      exact ⟨hq.1, hheld⟩
    exact exec_timeFrame_of_stepTime hs (hframe.trans (timeLocked_stepped hfar hquiet)) hempty
  · exact exec_timeFrame_of_no_task hs (hframe.trans (timeLocked_deferred hfar hq))

end Sys2Proof.Machine
end

section
/-! PROOF. O24: the holdover timer's expiry and the instants of a slew. -/

namespace Sys2Proof.Machine

/-- The event of a hand-off of a calm state that hands off nothing. -/
theorem event_of_no_task {s : State} {t : Task} {q : Part} (hs : s.calm) (h : runTask t s.part = (q, [])) :
    s.event t = { s with part := q } :=
  event_eq hs (drains_single h (drains_nil q)) (by decide)

/-- Time quality that becomes POOR finds no attempt to end (R153). -/
theorem timeQualityPoor_of_noOpenAttempt {p : Part} (h : p.noOpenAttempt = true) : timeQualityPoor p = (p, []) := by
  unfold Part.noOpenAttempt at h
  unfold timeQualityPoor
  split
  · next ha =>
    rw [ha] at h
    rw [if_neg (by simpa using h)]
  · rfl

theorem Part.raiseFlag_noOpenAttempt (p : Part) (f : Flag) : (p.raiseFlag f).noOpenAttempt = p.noOpenAttempt := by
  unfold Part.raiseFlag
  dsimp only
  split <;> rfl

theorem holdoverExpiry_not_due {p : Part} (h : p.time.holdover.due = false) : holdoverExpiry p = (p, []) := by
  simp [holdoverExpiry, h]

theorem holdoverExpiry_due {p : Part} (hd : p.time.holdover.due = true) (hs : p.time.state = .holdover) :
    holdoverExpiry p =
      ((p.setTime { p.time with state := .unsynced, holdover := .stopped, stepDeferred := false }).raiseFlag
        .timeUnsynced, [.timeQualityPoor]) := by
  simp only [holdoverExpiry, hd, hs, if_true]
  rfl

theorem slewInstant_not_due {p : Part} (h : p.time.slewDue = false) : slewInstant p = (p, []) := by
  simp [slewInstant, h]

theorem slewInstant_added {p : Part} (hd : p.time.slewDue = true) (hc : 0 < p.time.correction) :
    slewInstant p =
      ((p.setTime { p.time with correction := p.time.correction - 1 }).count, [.handOver]) := by
  simp only [slewInstant, hd, hc, if_true]
  rfl

theorem slewInstant_withheld {p : Part} (hd : p.time.slewDue = true) (hc : p.time.correction ≤ 0) :
    slewInstant p =
      (p.setTime { p.time with correction := p.time.correction + 1, withhold := p.time.withhold + 1 }, []) := by
  simp only [slewInstant, hd, if_true, if_neg (not_lt.mpr hc)]
  rfl

theorem Part.count_scheduleEmpty {p : Part} (h : p.scheduleEmpty) : p.count.scheduleEmpty := by
  obtain ⟨he, hh⟩ := h
  exact ⟨by simp [Part.count, Part.countTimers, he], hh⟩

/-- Settles O24: each expiry is due or does nothing, and what it hands off finds nothing to do. -/
theorem holdoverAndSlewInstants : Obligations.HoldoverAndSlewInstants := by
  refine fun s hs => ⟨fun hd => ?_, fun hd hst ha => ?_, fun hd => ?_, fun hd hc he => ?_, fun hd hc => ?_⟩ <;>
    refine congrArg Host.Outcome.next ?_
  · exact event_of_no_task hs (holdoverExpiry_not_due hd)
  · refine event_eq hs (n := 2) (drains_cons ?_) (by decide)
    rw [runTask, holdoverExpiry_due hd hst]
    exact drains_single (timeQualityPoor_of_noOpenAttempt ((Part.raiseFlag_noOpenAttempt ..).trans ha)) (drains_nil _)
  · exact event_of_no_task hs (slewInstant_not_due hd)
  · refine event_eq hs (n := 2) (drains_cons ?_) (by decide)
    rw [runTask, slewInstant_added hd hc]
    exact drains_handOver_empty (Part.count_scheduleEmpty (p := s.part.setTime _) he)
  · exact event_of_no_task hs (slewInstant_withheld hd hc)

end Sys2Proof.Machine
end

section
/-! SUPPORT. The ledger of the part: its source records, its operate record and its Fault Log. Most functions that a
hand-off runs leave it as it is, one lemma for each. -/

namespace Sys2Proof.Machine

/-- What the laws of the sources and of the kept records are about (R46, R47, R51, R186, R193). -/
def Part.ledger (p : Part) : Vector SourceRecord 4 × List OperateRow × FaultLog :=
  (p.sources, p.management.operates, p.management.faults)

section

variable (p : Part)

/-- A part with the ledger of `p` in its places has its ledger, whatever else it holds. -/
@[simp] theorem Part.ledger_mk {p : Part} {m : Management}
    {link map units time points srcSet brkSet brk top busSet buses fed arb channels templates cands sel ex cur prev
      guard sync att timer sch groups stages free}
    (hf : m.faults = p.management.faults) (ho : m.operates = p.management.operates) :
    Part.ledger ⟨link, map, units, time, points, srcSet, p.sources, brkSet, brk, top, busSet, buses, fed, arb, channels,
      templates, cands, sel, ex, cur, prev, guard, sync, att, timer, sch, groups, stages, m, free⟩ = p.ledger := by
  simp [Part.ledger, hf, ho]

@[simp] theorem Part.setManagement_ledger {v : Management} (hf : v.faults = p.management.faults)
    (ho : v.operates = p.management.operates) : (p.setManagement v).ledger = p.ledger := Part.ledger_mk hf ho

@[simp] theorem Part.setStage_ledger (i v) : (p.setStage i v).ledger = p.ledger := rfl
@[simp] theorem Part.recomputeFeeding_ledger : p.recomputeFeeding.ledger = p.ledger := rfl
@[simp] theorem Part.setBreaker_ledger (i v) : (p.setBreaker i v).ledger = p.ledger := rfl
@[simp] theorem Part.setBus_ledger (i v) : (p.setBus i v).ledger = p.ledger := rfl
@[simp] theorem Part.setExec_ledger (v) : (p.setExec v).ledger = p.ledger := rfl
@[simp] theorem Part.setAttempt_ledger (v) : (p.setAttempt v).ledger = p.ledger := rfl
@[simp] theorem Part.putEntry_ledger (e) : (p.putEntry e).ledger = p.ledger := rfl
@[simp] theorem Part.dropEntry_ledger (num) : (p.dropEntry num).ledger = p.ledger := rfl
@[simp] theorem Part.countSchedule_ledger (f) : (p.countSchedule f).ledger = p.ledger := rfl
@[simp] theorem Part.accept_ledger (target action owner t) : (p.accept target action owner t).1.ledger = p.ledger := rfl
@[simp] theorem Part.tally_ledger (k f) : (p.tally k f).ledger = p.ledger := rfl
@[simp] theorem Part.nextSeq_ledger : p.nextSeq.ledger = p.ledger := rfl
@[simp] theorem Part.bind_ledger (r n) : (p.bind r n).ledger = p.ledger := rfl
@[simp] theorem Part.clearFlag_ledger (f) : (p.clearFlag f).ledger = p.ledger := rfl
@[simp] theorem Part.judgeReturn_ledger (x) : (p.judgeReturn x).ledger = p.ledger := rfl
@[simp] theorem Part.updateStep_ledger (f) : (p.updateStep f).ledger = p.ledger := rfl

@[simp] theorem Part.raiseFlag_ledger (f : Flag) : (p.raiseFlag f).ledger = p.ledger := by
  simp only [Part.raiseFlag]
  split <;> rfl

@[simp] theorem Part.setIfStanding_ledger (f : Flag) : (p.setIfStanding f).ledger = p.ledger := by
  unfold Part.setIfStanding
  split <;> simp

@[simp] theorem Part.judgeService_ledger (b : Breaker) : (p.judgeService b).ledger = p.ledger := by
  unfold Part.judgeService
  split <;> simp

@[simp] theorem Part.setPosition_ledger (b : Breaker) (pos : Position) : (p.setPosition b pos).ledger = p.ledger := by
  cases b <;> rfl

/-- Parts reached in turn, each with the ledger of the one before it. -/
@[simp] theorem foldl_ledger {α : Type} {f : Part → α → Part} (h : ∀ q a, (f q a).ledger = q.ledger)
    (l : List α) : (l.foldl f p).ledger = p.ledger := by
  induction l generalizing p with
  | nil => rfl
  | cons a l ih => exact (ih (f p a)).trans (h p a)

/-! ### The Request Arbiter -/

@[simp] theorem raise_ledger (c : Channel) : (raise c p).1.ledger = p.ledger := by
  simp only [raise]
  split <;> rfl

@[simp] theorem judgeTake_ledger : (judgeTake p).1.ledger = p.ledger := by
  unfold judgeTake
  split
  · rfl
  · dsimp only
    split <;> rfl

@[simp] theorem planEnded_ledger (o : PlanOutcome) : (planEnded o p).1.ledger = p.ledger := by
  unfold planEnded
  split <;> rfl

@[simp] theorem endEngagement_ledger (c : Channel) : (endEngagement c p).1.ledger = p.ledger := by
  unfold endEngagement
  split <;> rfl

@[simp] theorem arbiterIdle_ledger : (arbiterIdle p).1.ledger = p.ledger := by
  unfold arbiterIdle
  dsimp only
  repeat' split
  all_goals rfl

@[simp] theorem judgePreempt_ledger : (judgePreempt p).1.ledger = p.ledger := by
  unfold judgePreempt
  repeat' split
  all_goals rfl

@[simp] theorem afterStart_ledger : (afterStart p).1.ledger = p.ledger := rfl

@[simp] theorem takeRequested_ledger (c : Channel) : (takeRequested c p).ledger = p.ledger := by cases c <;> rfl

/-! ### The Breaker and Bus Monitor, beside the faults that it records -/

@[simp] theorem breakerGone_ledger (b : Breaker) : (breakerGone b p).1.ledger = p.ledger := by
  unfold breakerGone
  dsimp only
  split <;> simp

@[simp] theorem liveState_ledger (x : Bus) : (liveState x p).1.ledger = p.ledger := by
  unfold liveState
  dsimp only
  repeat' split
  all_goals rfl

@[simp] theorem deadConfirmExpiry_ledger (x : Bus) : (deadConfirmExpiry x p).1.ledger = p.ledger := by
  unfold deadConfirmExpiry
  dsimp only
  repeat' split
  all_goals rfl

@[simp] theorem monitorIdle_ledger : (monitorIdle p).ledger = p.ledger := by
  simp only [monitorIdle]
  repeat' split
  all_goals rfl

@[simp] theorem returnExpiry_ledger (x : Bus) : (returnExpiry x p).1.ledger = p.ledger := by
  unfold returnExpiry
  split <;> rfl

@[simp] theorem startBus_ledger (x : Bus) : (startBus x p).1.ledger = p.ledger := rfl

@[simp] theorem unplannedExpiry_ledger (x : Bus) : (unplannedExpiry x p).1.ledger = p.ledger := by
  simp only [unplannedExpiry]
  split <;> simp

@[simp] theorem feedTold_ledger : (feedTold p).1.ledger = p.ledger := rfl
@[simp] theorem raiseLost_ledger (x) : (raiseLost x p).1.ledger = p.ledger := rfl

@[simp] theorem breakerFails_ledger (b : Breaker) : (breakerFails b p).ledger = p.ledger := by simp [breakerFails]

@[simp] theorem countInterlock_ledger (b : Breaker) : (countInterlock b p).ledger = p.ledger := rfl

/-! ### The Link Port -/

@[simp] theorem egress_ledger (k : Port) : (egress k p).1.ledger = p.ledger := by
  unfold egress
  repeat' split
  all_goals rfl

@[simp] theorem offerForward_ledger (k : Port) (bytes : List Byte) : (offerForward k bytes p).1.ledger = p.ledger := by
  simp only [offerForward]
  repeat' split
  all_goals rfl

@[simp] theorem placeResponse_ledger (f : ResponseFrame) (k : Port) : (placeResponse f k p).ledger = p.ledger := by
  simp only [placeResponse]
  repeat' split
  all_goals rfl

@[simp] theorem placeStatus_ledger (f : StatusFrame) (k : Port) : (placeStatus f k p).ledger = p.ledger := by
  unfold placeStatus
  split <;> rfl

@[simp] theorem placeCommand_ledger (f : CommandFrame) (k : Port) : (placeCommand f k p).ledger = p.ledger := by
  unfold placeCommand
  split <;> rfl

@[simp] theorem acceptCommand_ledger (f : CommandFrame) : (acceptCommand f p).ledger = p.ledger := by
  unfold acceptCommand
  split <;> simp

@[simp] theorem respond_ledger (m : Sender) (a : Answer) (rows : List RowData) :
    (respond m a rows p).1.ledger = p.ledger := by
  simp only [respond]
  split <;> simp

@[simp] theorem portUp_ledger (k : Port) : (portUp k p).1.ledger = p.ledger := by
  simp only [portUp]
  split <;> rfl

@[simp] theorem portDown_ledger (k : Port) : (portDown k p).1.ledger = p.ledger := by
  simp only [portDown]
  split <;> rfl

@[simp] theorem transmitEnd_ledger (k : Port) : (transmitEnd k p).1.ledger = p.ledger := by
  simp only [transmitEnd]
  split <;> rfl

@[simp] theorem takeIn_ledger (k : Port) (bytes : List Byte) : (takeIn k bytes p).1.ledger = p.ledger := by
  unfold takeIn
  split <;> rfl

@[simp] theorem receive_ledger (k : Port) (ok : Bool) (bytes : List Byte) :
    (receive k ok bytes p).1.ledger = p.ledger := by
  unfold receive
  dsimp only
  repeat' split
  all_goals simp

@[simp] theorem silenceExpiry_ledger (r : Fin 32) : (silenceExpiry r p).1.ledger = p.ledger := by
  simp only [silenceExpiry]
  repeat' split
  all_goals rfl

@[simp] theorem mapFrame_ledger (k : Port) (h : Header) (b : Body) : (mapFrame k h b p).1.ledger = p.ledger := by
  unfold mapFrame
  dsimp only
  repeat' split
  all_goals rfl

@[simp] theorem claimRow_ledger (k : Port) (r : Fin 32) (n : Fin 255) : (claimRow k r n p).1.ledger = p.ledger := by
  rcases claimRow_cases p k r n with h | h | h | ⟨h, _⟩ | ⟨r2, h, _⟩ <;> simp [h]

@[simp] theorem announce_ledger (k : Port) (f : AnnounceFrame) : (announce k f p).1.ledger = p.ledger :=
  announce_keeps p (fun q => q.ledger = p.ledger) rfl (fun _ _ => claimRow_ledger ..) fun _ _ _ hq => hq

@[simp] theorem statusExpiry_ledger : (statusExpiry p).1.ledger = p.ledger := by
  unfold statusExpiry
  split <;> simp

/-! ### The Command Scheduler -/

theorem Part.insertEntry_ledger {p q : Part} {target : Target} {action : Action} {owner : Owner} {timed : Option Nat}
    {num : CmdNum} (h : p.insertEntry target action owner timed = .ok (q, num)) : q.ledger = p.ledger := by
  unfold Part.insertEntry at h
  split at h
  · cases h
  · split at h <;> cases h
    rfl

@[simp] theorem Part.insertGuard_ledger (b : Breaker) (serial : Nat) :
    (p.insertGuard b serial).1.ledger = p.ledger := by
  simp only [Part.insertGuard]
  split <;> simp

theorem Part.retimeEntry_ledger {p q : Part} {num : CmdNum} {t : Nat} (h : p.retimeEntry num t = some q) :
    q.ledger = p.ledger := by
  unfold Part.retimeEntry at h
  split at h
  · split at h <;> cases h
    rfl
  · cases h

@[simp] theorem Part.cancelEntry_ledger (num : CmdNum) : (p.cancelEntry num).ledger = p.ledger := by
  unfold Part.cancelEntry
  split <;> rfl

@[simp] theorem attemptSent_ledger (num : CmdNum) : (attemptSent num p).ledger = p.ledger := by
  unfold attemptSent
  repeat' split
  all_goals rfl

@[simp] theorem countOperation_ledger (target : Target) : (countOperation target p).ledger = p.ledger := by
  cases target <;> simp [countOperation]

@[simp] theorem sendEntry_ledger (e : Entry) : (sendEntry e p).1.ledger = p.ledger := by
  simp only [sendEntry]
  split <;> simp

@[simp] theorem offerCopy_ledger (f : CommandFrame) (k : Port) : (offerCopy f k p).ledger = p.ledger := by
  unfold offerCopy
  split <;> simp

@[simp] theorem offerHeld_ledger (c : HeldCopy) : (offerHeld c p).ledger = p.ledger := by
  simp only [offerHeld]
  split <;> split <;> simp

@[simp] theorem entryDue_ledger (num : CmdNum) : (entryDue num p).1.ledger = p.ledger := by
  unfold entryDue
  repeat' split
  all_goals rfl

@[simp] theorem resolve_ledger (e o) : (resolve e o p).1.ledger = p.ledger := rfl
@[simp] theorem breakerEntries_ledger (b) : (breakerEntries b p).1.ledger = p.ledger := rfl
@[simp] theorem sourceEntries_ledger (s) : (sourceEntries s p).1.ledger = p.ledger := rfl

@[simp] theorem judgeBreakerEntry_ledger (num : CmdNum) : (judgeBreakerEntry num p).1.ledger = p.ledger := by
  unfold judgeBreakerEntry
  repeat' split
  all_goals rfl

@[simp] theorem judgeSourceEntry_ledger (num : CmdNum) : (judgeSourceEntry num p).1.ledger = p.ledger := by
  unfold judgeSourceEntry
  dsimp only
  repeat' split
  all_goals rfl

@[simp] theorem deadlineExpiry_ledger (num : CmdNum) : (deadlineExpiry num p).1.ledger = p.ledger := by
  unfold deadlineExpiry
  dsimp only
  repeat' split
  all_goals simp

/-! ### The Synchronising Unit -/

@[simp] theorem finishAttempt_ledger (a st r) : (finishAttempt a st r p).ledger = p.ledger := rfl
@[simp] theorem endAttempt_ledger (a st r) : (endAttempt a st r p).1.ledger = p.ledger := rfl

@[simp] theorem cancelAttemptEntry_ledger (a : AttemptRecord) : (cancelAttemptEntry a p).1.ledger = p.ledger := by
  unfold cancelAttemptEntry
  split <;> simp

@[simp] theorem breakOff_ledger (a st r) : (breakOff a st r p).1.ledger = p.ledger := by simp [breakOff]

@[simp] theorem arm_ledger (a : AttemptRecord) (tc : Nat) : (arm a tc p).1.ledger = p.ledger := by
  unfold arm
  split
  · next h => simpa using Part.insertEntry_ledger h
  · simp

@[simp] theorem retime_ledger (a : AttemptRecord) (tc : Nat) : (retime a tc p).1.ledger = p.ledger := by
  unfold retime
  split
  · rfl
  · split
    · rfl
    · split
      · next h => simpa using Part.retimeEntry_ledger h
      · simp

@[simp] theorem disarm_ledger (a : AttemptRecord) : (disarm a p).ledger = p.ledger := by simp [disarm]

@[simp] theorem evaluateAttempt_ledger (a : AttemptRecord) : (evaluateAttempt a p).1.ledger = p.ledger := by
  unfold evaluateAttempt
  dsimp only
  repeat' split
  all_goals simp

@[simp] theorem evaluate_ledger (pt : Point) : (evaluate pt p).1.ledger = p.ledger := by
  unfold evaluate
  repeat' split
  all_goals simp

@[simp] theorem startAttempt_ledger (b r i set c t n) : (startAttempt b r i set c t n p).1.ledger = p.ledger := by
  simp [startAttempt]

@[simp] theorem attemptEntry_ledger (num : CmdNum) (o : EntryOutcome) : (attemptEntry num o p).1.ledger = p.ledger := by
  unfold attemptEntry
  repeat' split
  all_goals rfl

@[simp] theorem syncLimitExpiry_ledger : (syncLimitExpiry p).1.ledger = p.ledger := by
  unfold syncLimitExpiry
  dsimp only
  repeat' split
  all_goals simp

@[simp] theorem timeQualityPoor_ledger : (timeQualityPoor p).1.ledger = p.ledger := by
  unfold timeQualityPoor
  repeat' split
  all_goals simp

@[simp] theorem abandonAttempt_ledger : (abandonAttempt p).ledger = p.ledger := by
  unfold abandonAttempt
  dsimp only
  repeat' split
  all_goals simp

/-! ### The Plan Executor and its guard -/

@[simp] theorem endStep_ledger (o) : (endStep o p).ledger = p.ledger := rfl
@[simp] theorem passStep_ledger (o) : (passStep o p).1.ledger = p.ledger := rfl

@[simp] theorem cancelQueued_ledger : (cancelQueued p).ledger = p.ledger := by simp [cancelQueued]

@[simp] theorem decideEnd_ledger (o) : (decideEnd o p).ledger = p.ledger := rfl

@[simp] theorem failNow_ledger (r : Reason) : (failNow r p).1.ledger = p.ledger := by simp [failNow]

@[simp] theorem failStep_ledger (serial step : Nat) (r : Reason) : (failStep serial step r p).1.ledger = p.ledger := by
  unfold failStep
  split <;> simp

@[simp] theorem placeEntryFor_ledger (target : Target) (action : Action) (group : Option Grp) :
    (placeEntryFor target action group p).1.ledger = p.ledger := by
  unfold placeEntryFor
  dsimp only
  split
  · rfl
  · split
    · rfl
    · next h => simpa using Part.insertEntry_ledger h

@[simp] theorem waitTimer_ledger (n) : (waitTimer n p).1.ledger = p.ledger := rfl

@[simp] theorem beginShedFit_ledger (s : Src) (buses : BusSet) : (beginShedFit s buses p).1.ledger = p.ledger := by
  unfold beginShedFit
  dsimp only
  repeat' split
  all_goals simp

@[simp] theorem beginSync_ledger (b : Breaker) (r i : Point) (set : Fin 4) :
    (beginSync b r i set p).1.ledger = p.ledger := by
  unfold beginSync
  repeat' split
  all_goals simp

@[simp] theorem beginKind_ledger (s : Step) : (beginKind s p).1.ledger = p.ledger := by
  cases s <;> simp only [beginKind, beginOpen, beginClose, beginRun, beginStop]
  all_goals repeat' split
  all_goals simp

@[simp] theorem shedNext_ledger (serial step : Nat) (gs : List Grp) :
    (shedNext serial step gs p).1.ledger = p.ledger := by
  unfold shedNext
  dsimp only
  repeat' split
  all_goals simp

@[simp] theorem beginStep_ledger (serial step : Nat) : (beginStep serial step p).1.ledger = p.ledger := by
  unfold beginStep
  repeat' split
  all_goals simp

@[simp] theorem nextStep_ledger (serial step : Nat) : (nextStep serial step p).1.ledger = p.ledger := by
  unfold nextStep
  dsimp only
  repeat' split
  all_goals rfl

@[simp] theorem windDown_ledger : (windDown p).1.ledger = p.ledger := by
  unfold windDown
  split
  · exact monitorIdle_ledger _
  · rfl

@[simp] theorem decideAborted_ledger : (decideAborted p).1.ledger = p.ledger := rfl

@[simp] theorem abandonStep_ledger : (abandonStep p).1.ledger = p.ledger := by
  unfold abandonStep
  split <;> simp

@[simp] theorem abort_ledger (cause : AbortCause) : (abort cause p).1.ledger = p.ledger := by
  unfold abort
  dsimp only
  repeat' split
  all_goals simp

@[simp] theorem settleAborted_ledger : (settleAborted p).1.ledger = p.ledger := by
  unfold settleAborted
  dsimp only
  repeat' split
  all_goals rfl

@[simp] theorem judgeGuard_ledger (b : Breaker) (r i : Point) (set : Fin 4) :
    (judgeGuard b r i set p).ledger = p.ledger := by
  unfold judgeGuard
  dsimp only
  split <;> rfl

@[simp] theorem guardFeed_ledger : (guardFeed p).1.ledger = p.ledger := by
  unfold guardFeed
  dsimp only
  split <;> rfl

@[simp] theorem guardExpiry_ledger : (guardExpiry p).1.ledger = p.ledger := by
  unfold guardExpiry
  split
  · exact p.insertGuard_ledger p.guard.target p.guard.serial
  · rfl

@[simp] theorem guardEntry_ledger (num : CmdNum) (serial : Nat) (o : EntryOutcome) :
    (guardEntry num serial o p).1.ledger = p.ledger := by
  simp only [guardEntry]
  split <;> rfl

@[simp] theorem endParallel_ledger (s : Step) : (endParallel s p).ledger = p.ledger := by
  unfold endParallel
  repeat' split
  all_goals rfl

@[simp] theorem entryConfirmed_ledger (s : Step) (told : List Task) :
    (entryConfirmed s told p).1.ledger = p.ledger := by
  unfold entryConfirmed
  dsimp only
  repeat' split
  all_goals simp

@[simp] theorem entryAborting_ledger (s : Step) (r : Option Reason) (told : List Task) :
    (entryAborting s r told p).1.ledger = p.ledger := by
  simp only [entryAborting]
  split <;> simp

@[simp] theorem stepEntry_ledger (num : CmdNum) (owner : Owner) (o : EntryOutcome) :
    (stepEntry num owner o p).1.ledger = p.ledger := by
  unfold stepEntry
  dsimp only
  repeat' split
  all_goals simp

@[simp] theorem attemptDone_ledger : (attemptDone p).1.ledger = p.ledger := by
  unfold attemptDone
  dsimp only
  repeat' split
  all_goals simp

@[simp] theorem waitDeadCheck_ledger (pt : Point) : (waitDeadCheck pt p).1.ledger = p.ledger := by
  unfold waitDeadCheck
  repeat' split
  all_goals rfl

@[simp] theorem healthCheck_ledger (s : Src) : (healthCheck s p).1.ledger = p.ledger := by
  unfold healthCheck
  repeat' split
  all_goals rfl

@[simp] theorem runCheck_ledger (s : Src) : (runCheck s p).1.ledger = p.ledger := by
  unfold runCheck
  repeat' split
  all_goals simp

@[simp] theorem waitdeadTimeout_ledger : (waitdeadTimeout p).1.ledger = p.ledger := by
  unfold waitdeadTimeout
  repeat' split
  all_goals simp

@[simp] theorem dwellExpiry_ledger : (dwellExpiry p).1.ledger = p.ledger := by
  unfold dwellExpiry
  repeat' split
  all_goals rfl

@[simp] theorem waithealthyTimeout_ledger : (waithealthyTimeout p).1.ledger = p.ledger := by
  unfold waithealthyTimeout
  repeat' split
  all_goals simp

@[simp] theorem guardFailPlan_ledger : (guardFailPlan p).1.ledger = p.ledger := by
  unfold guardFailPlan
  dsimp only
  repeat' split
  all_goals simp

/-! ### The Time Base -/

@[simp] theorem stepTime_ledger (target) : (stepTime target p).1.ledger = p.ledger := rfl
@[simp] theorem Part.slew_ledger (e) : (p.slew e).ledger = p.ledger := rfl

@[simp] theorem timeLocked_ledger (target : Nat) (e : Int) : (timeLocked target e p).1.ledger = p.ledger := by
  unfold timeLocked
  dsimp only
  repeat' split
  all_goals simp

@[simp] theorem timeFrame_ledger (master : Nat) : (timeFrame master p).1.ledger = p.ledger := by
  unfold timeFrame
  dsimp only
  repeat' split
  all_goals simp

@[simp] theorem masterGone_ledger : (masterGone p).1.ledger = p.ledger := by
  unfold masterGone
  dsimp only
  split <;> rfl

@[simp] theorem holdoverExpiry_ledger : (holdoverExpiry p).1.ledger = p.ledger := by
  unfold holdoverExpiry
  dsimp only
  repeat' split
  all_goals simp

/-! ### The Source Supervisor, beside its records -/

@[simp] theorem takeReading_ledger (pt : Point) (b : RawReading) : (takeReading pt b p).1.ledger = p.ledger := by
  unfold takeReading
  dsimp only
  repeat' split
  all_goals rfl

@[simp] theorem sourceChanged_ledger (s) : (sourceChanged s p).1.ledger = p.ledger := rfl
@[simp] theorem genChanged_ledger (s replaced loadChanged) :
    (genChanged s replaced loadChanged p).1.ledger = p.ledger := rfl

/-! ### Management and the Load Manager -/

@[simp] theorem takeForeign_ledger : (takeForeign p).1.ledger = p.ledger := rfl
@[simp] theorem respondOperate_ledger (m num) : (respondOperate m num p).1.ledger = p.ledger := rfl
@[simp] theorem load_ledger : (load p).1.ledger = p.ledger := rfl
@[simp] theorem shedMark_ledger (g) : (shedMark g p).1.ledger = p.ledger := rfl

@[simp] theorem capacityShort_ledger : (capacityShort p).1.ledger = p.ledger := by
  unfold capacityShort
  split <;> simp

@[simp] theorem shedStage_ledger (x : Bus) : (shedStage x p).1.ledger = p.ledger := by
  unfold shedStage
  dsimp only
  repeat' split
  all_goals rfl

@[simp] theorem frequencyExpiry_ledger (x : Bus) : (frequencyExpiry x p).1.ledger = p.ledger := by
  unfold frequencyExpiry
  split <;> rfl

@[simp] theorem capacityExpiry_ledger (x : Bus) : (capacityExpiry x p).1.ledger = p.ledger := by
  unfold capacityExpiry
  split <;> rfl

@[simp] theorem restoreStage_ledger (x : Bus) : (restoreStage x p).1.ledger = p.ledger := by
  obtain ⟨v, h | h⟩ := restoreStage_only p x <;> rw [h]
  rfl

@[simp] theorem shedRaised_ledger (x : Bus) : (shedRaised x p).1.ledger = p.ledger := by simp [shedRaised]

@[simp] theorem settleExpiry_ledger (x : Bus) : (settleExpiry x p).1.ledger = p.ledger := by
  unfold settleExpiry
  dsimp only
  repeat' split
  all_goals rfl

@[simp] theorem judgeCandidate_ledger (x : Bus) : (judgeCandidate x p).1.ledger = p.ledger := by
  unfold judgeCandidate restoreBlocked
  dsimp only
  repeat' split
  all_goals simp

@[simp] theorem staggerExpiry_ledger (x : Bus) : (staggerExpiry x p).1.ledger = p.ledger := by
  unfold staggerExpiry
  dsimp only
  repeat' split
  all_goals simp

@[simp] theorem restoreOutcome_ledger (c : Channel) : (restoreOutcome c p).1.ledger = p.ledger := by
  simp only [restoreOutcome]
  repeat' split
  all_goals rfl

@[simp] theorem loadOutcome_ledger (c : Channel) : (loadOutcome c p).1.ledger = p.ledger := by cases c <;> rfl
@[simp] theorem loadStart_ledger : (loadStart p).1.ledger = p.ledger := rfl

end

end Sys2Proof.Machine
end

section
/-! SUPPORT. The requests leave the ledger as it is, but for CLEAR_FAULTS, SOURCE_SERVICE and a topology write. -/

namespace Sys2Proof.Machine

section

variable (p : Part)

/-- A write leaves the ledger where it leaves it when it is applied (R189). -/
theorem writeWith_ledger {α : Type} {m : Sender} {table first count : Nat} {rows : Judged (List α)}
    {whole : List α → Option RefusedReason} {apply : List α → Res} (h : ∀ ks, (apply ks).1.ledger = p.ledger) :
    (writeWith m table first count p rows whole apply).1.ledger = p.ledger :=
  writeWith_keeps (fun q => q.ledger = p.ledger) rfl fun ks _ _ _ => h ks

@[simp] theorem applyLive_ledger (row : Nat) (k : LiveRow) : (applyLive row k p).ledger = p.ledger := by
  cases k <;> simp only [applyLive]
  case point => split <;> rfl
  all_goals rfl

@[simp] theorem applyLives_ledger (ks : List LiveRow) (row : Nat) : (applyLives ks row p).ledger = p.ledger := by
  induction ks generalizing row p with
  | nil => rfl
  | cons k ks ih => exact (ih ..).trans (applyLive_ledger ..)

@[simp] theorem applyMap_ledger (ks : List UnitMapRow) (i : Nat) : (applyMap ks i p).1.ledger = p.ledger := by
  induction ks generalizing i p with
  | nil => rfl
  | cons k ks ih =>
    simp only [applyMap]
    split
    · exact ih ..
    · rfl

@[simp] theorem clearTallies_ledger (first count : Nat) : (clearTallies first count p).ledger = p.ledger := by
  simp only [clearTallies]
  split <;> split <;> rfl

@[simp] theorem requestOperate_ledger (m : Sender) (n : Nat) (a : Option Action) :
    (requestOperate m n a p).1.ledger = p.ledger := by
  unfold requestOperate
  split
  · rfl
  · split
    · rfl
    · rfl
    · split
      · next h => exact Part.insertEntry_ledger h
      · rfl

/-- A request that may change the ledger (R43, R53, R194). -/
def setsLedger : Request → Bool
  | .clearFaults | .sourceServiceOut _ | .sourceServiceIn _ | .writeTopology .. => true
  | _ => false

theorem carryOut_ledger (m : Sender) {r : Request} (h : setsLedger r = false) :
    (carryOut m r p).1.ledger = p.ledger := by
  cases r <;> simp [setsLedger] at h <;> simp only [carryOut]
  case writeRows => exact writeWith_ledger p fun _ => applyLives_ledger ..
  case writeUnitMap => exact writeWith_ledger p fun _ => applyMap_ledger ..
  case writeBreakerSettings =>
    exact writeWith_ledger p fun _ => foldl_ledger _ (fun q b => q.judgeService_ledger b) _
  case clearPortTallies => exact writeWith_ledger p fun _ => clearTallies_ledger ..
  case writeTemplates => exact writeWith_ledger p fun _ => rfl
  case writeCandidateLists => exact writeWith_ledger p fun _ => rfl
  case writeSourceSettings => exact writeWith_ledger p fun _ => rfl
  case writeBusSettings => exact writeWith_ledger p fun _ => rfl
  case writeGroupTable => exact writeWith_ledger p fun _ => rfl
  case ackConditions =>
    unfold requestAck
    split
    · rfl
    · exact (foldl_ledger _ (fun q f => q.raiseFlag_ledger f) _).trans
        (foldl_ledger p (fun q f => q.clearFlag_ledger f) _)
  case operate => exact requestOperate_ledger ..
  case unknown => rfl
  all_goals
    simp only [readRows, requestStart, requestHalt, requestTemplate, requestConfirm, requestSetChannel,
      requestClearLockout, requestResetBreaker, requestRestoreGroup, requestIdentify, requestRestart]
    repeat' split
    all_goals rfl

end

end Sys2Proof.Machine
end

section
/-! SUPPORT. A law of the source records, the Fault Log and the operate record that every operation on them keeps is one
that every step keeps. -/

namespace Sys2Proof.Machine

/-- A law of the ledger's records, one at a time, that holds at POWER-ON and is kept by all that the rules do to them
(R43–R51, R53, R186, R193, R194). -/
structure RecordLaw where
  source : SourceRecord → Prop
  faults : FaultLog → Prop
  operates : List OperateRow → Prop
  source_init : source SourceRecord.init
  source_judge : ∀ {q} k r, source q → source (q.judge k r)
  source_leave : ∀ {q} st, st ≠ .riding → source q → source (q.leave st)
  source_enter : ∀ {q} st, st ≠ .riding → q.state = .out → source q → source { q with state := st }
  source_pickedUp : ∀ {q}, q.state = .rising → source q → source { q with state := .healthy, pickup := .stopped }
  source_stop : ∀ {q}, source q → source { q with pickup := .stopped }
  source_count : ∀ {q} n, source q → source { q with pickup := q.pickup.count n }
  source_gen : ∀ {q} g, source q → source { q with gen := g }
  faults_init : faults FaultLog.init
  faults_record : ∀ {log} r, faults log → faults (log.record r)
  operates_nil : operates []
  operates_add : ∀ {rows} row, operates rows →
    operates ((rows ++ [row]).drop ((rows ++ [row]).length - operateDepth))

/-- The ledger of the part obeys a law. -/
def Part.obeys (p : Part) (L : RecordLaw) : Prop :=
  (∀ s, L.source (p.source s)) ∧ L.operates p.management.operates ∧ L.faults p.management.faults

variable {L : RecordLaw}

theorem Part.obeys_of_ledger {p q : Part} (h : q.ledger = p.ledger) (hp : p.obeys L) : q.obeys L := by
  simp only [Part.ledger, Prod.mk.injEq] at h
  obtain ⟨hsources, hoperates, hfaults⟩ := h
  unfold Part.obeys Part.source at *
  rwa [hsources, hfaults, hoperates]

section

variable {p : Part} (hp : p.obeys L)
include hp

theorem setSource_obeys (s : Src) {q : SourceRecord} (hq : L.source q) : (p.setSource s q).obeys L := by
  obtain ⟨hsources, hoperates, hfaults⟩ := hp
  refine ⟨fun i => ?_, hoperates, hfaults⟩
  rw [Part.source_setSource]
  split
  · exact hq
  · exact hsources i

theorem source_obeys (s : Src) : L.source (p.source s) := hp.1 s

theorem recordFault_obeys (r : FaultRecord) : (p.recordFault r).obeys L := by
  obtain ⟨hsources, hoperates, hfaults⟩ := hp
  exact ⟨hsources, hoperates, L.faults_record _ hfaults⟩

/-! ### The faults that the blocks record -/

theorem unitLost_obeys (role : Role) : (unitLost role p).1.obeys L :=
  recordFault_obeys (Part.obeys_of_ledger (p.raiseFlag_ledger _) hp) _

theorem countUncommanded_obeys (b : Breaker) : (countUncommanded b p).obeys L := by
  cases b
  case feeder => exact hp
  all_goals exact recordFault_obeys (p := p.setBreaker _ _) hp _

theorem takeReport_obeys (b : Breaker) (r : BreakerReport) : (takeReport b r p).1.obeys L := by
  have hfiltered (what : Filtered) : Part.obeys
      (if what = .kept then p.setBreaker b ((p.breaker b).report r)
        else (p.setBreaker b ((p.breaker b).report r)).setPosition b (positionOf r.position)) L := by
    split
    · exact hp
    · exact Part.obeys_of_ledger (Part.setPosition_ledger ..) hp
  simp only [takeReport]
  split
  · exact countUncommanded_obeys (hfiltered _) b
  · exact hfiltered _

theorem busFault_obeys (x : Bus) (b : Breaker) : (busFault x b p).1.obeys L := by
  unfold busFault
  split
  · exact hp
  · exact recordFault_obeys (Part.obeys_of_ledger (p := p) (by simp) hp) _

theorem select_obeys (c : Channel) : (select c p).1.obeys L := by
  unfold select
  dsimp only
  have ht := Part.obeys_of_ledger (takeRequested_ledger { p with selection := some (p.choosePlan c).record } c) hp
  split
  · exact ht
  · have hf := recordFault_obeys ht (noPathFault (p.choosePlan c).record)
    split
    · exact Part.obeys_of_ledger (Part.raiseFlag_ledger ..) hf
    · exact hf

theorem judgeHead_obeys (e : Entry) : (judgeHead e p).1.obeys L := by
  simp only [judgeHead]
  split
  · have hr := Part.obeys_of_ledger ((p.dropEntry e.num).raiseFlag_ledger .scheduleMissed) hp
    exact Part.obeys_of_ledger (Part.countSchedule_ledger ..) (recordFault_obeys hr _)
  · refine Part.obeys_of_ledger ?_ hp
    repeat' split
    all_goals simp

theorem handOver_obeys : (handOver p).1.obeys L := by
  unfold handOver
  dsimp only
  split
  · exact judgeHead_obeys (p := takeBack p.refreshDue) hp _
  · split
    · exact hp
    · split
      · exact Part.obeys_of_ledger (offerHeld_ledger ..) hp
      · exact judgeHead_obeys (p := p.refreshDue) hp _
      · exact hp

theorem guardTripped_obeys : (guardTripped p).1.obeys L := recordFault_obeys hp _

theorem reportEntry_obeys (e : Entry) (o : EntryOutcome) : (reportEntry e o p).1.obeys L := by
  unfold reportEntry
  split
  case h_3 => exact Part.obeys_of_ledger (guardEntry_ledger ..) hp
  case h_4 =>
    obtain ⟨hsources, hoperates, hfaults⟩ := hp
    exact ⟨hsources, L.operates_add _ hoperates, hfaults⟩
  all_goals exact hp

/-! ### The source records -/

theorem sourceReading_obeys (s : Src) (r : Reading) : (sourceReading s r p).1.obeys L := by
  have hj := setSource_obeys hp s (L.source_judge (p.srcSet s) r (source_obeys hp s))
  unfold sourceReading
  dsimp only
  split
  · exact hj
  · split
    · exact recordFault_obeys hj _
    · exact hj

theorem pointBlind_obeys (pt : Point) : (pointBlind pt p).1.obeys L := by
  unfold pointBlind
  dsimp only
  split
  · split
    · exact hp
    · split
      · exact hp
      · exact setSource_obeys (p := p.setPoint _ _) hp _ (L.source_leave _ (by decide) (source_obeys hp _))
  · exact hp

theorem pickupExpiry_obeys (s : Src) : (pickupExpiry s p).1.obeys L := by
  unfold pickupExpiry
  dsimp only
  split
  · split
    · next h => exact setSource_obeys hp s (L.source_pickedUp h (source_obeys hp s))
    · exact setSource_obeys hp s (L.source_stop (source_obeys hp s))
  · exact hp

theorem takeGenstat_obeys (s : Src) (b : GenReport) : (takeGenstat s b p).1.obeys L := by
  unfold takeGenstat
  split
  · exact setSource_obeys hp s (L.source_gen _ (source_obeys hp s))
  · exact hp

theorem unitGone_obeys (role : Role) : (unitGone role p).1.obeys L := by
  cases role
  case genctl s => exact setSource_obeys hp s (L.source_gen _ (source_obeys hp s))
  case breaker => exact Part.obeys_of_ledger (breakerGone_ledger ..) hp
  case timeMaster => exact Part.obeys_of_ledger (masterGone_ledger ..) hp
  all_goals exact hp

theorem count_obeys : p.count.obeys L := by
  obtain ⟨hsources, hoperates, hfaults⟩ := hp
  refine ⟨fun s => ?_, hoperates, hfaults⟩
  simpa [Part.count, Part.countTimers, Part.source] using L.source_count 1 (hsources s)

theorem slewInstant_obeys : (slewInstant p).1.obeys L := by
  simp only [slewInstant]
  split
  · split
    · exact count_obeys (p := p.setTime _) hp
    · exact hp
  · exact hp

theorem tick_obeys : p.tick.obeys L := by
  simp only [Part.tick]
  split <;> split
  · exact count_obeys (p := p.setTime _) hp
  · exact hp
  · exact count_obeys (p := p.setTime _) hp
  · exact hp

theorem restart_obeys : (restart p).1.obeys L := by
  refine Part.obeys_of_ledger (foldl_ledger _ (fun q f => q.setIfStanding_ledger f) _) ?_
  obtain ⟨hsources, hoperates, hfaults⟩ := hp
  refine ⟨fun s => ?_, hoperates, hfaults⟩
  rw [p.restarted_source]
  exact L.source_gen _ (L.source_leave _ (by split <;> decide) (hsources s))

/-! ### The requests -/

theorem rekindSource_obeys (old new : SourceKind) (s : Src) : (rekindSource old new s p).1.obeys L := by
  have hq : L.source (if new = .unused ∧ old ≠ .unused then (p.source s).leave .out else p.source s) := by
    split
    · exact L.source_leave _ (by decide) (source_obeys hp s)
    · exact source_obeys hp s
  refine setSource_obeys hp s ?_
  split
  · exact L.source_gen _ hq
  · exact hq

omit hp in
theorem rekindAll_obeys (old : Topology) (ss : List Src) {p : Part} (hp : p.obeys L) :
    (rekindAll old ss p).1.obeys L := by
  induction ss generalizing p with
  | nil => exact hp
  | cons s ss ih => exact ih (rekindSource_obeys hp _ _ s)

theorem applyTopology_obeys (t : Topology) : (applyTopology t p).1.obeys L := by
  have ht : Part.obeys { p with topology := t } L := hp
  exact Part.obeys_of_ledger (Part.recomputeFeeding_ledger _) (rekindAll_obeys p.topology allSrcs ht)

theorem writeTopology_obeys (m : Sender) (first : Nat) (rows : List TopologyRow) :
    (writeTopology m first rows p).1.obeys L :=
  writeWith_keeps (Part.obeys · L) hp fun _ _ _ _ => applyTopology_obeys hp _

theorem requestServiceOut_obeys (m : Sender) (n : Nat) : (requestServiceOut m n p).1.obeys L := by
  unfold requestServiceOut
  split
  · exact hp
  · split
    · exact hp
    · split
      · exact hp
      · exact setSource_obeys hp _ (L.source_leave _ (by decide) (source_obeys hp _))

theorem requestServiceIn_obeys (m : Sender) (n : Nat) : (requestServiceIn m n p).1.obeys L := by
  unfold requestServiceIn
  split
  · exact hp
  · split
    · exact hp
    · split
      · next h => exact setSource_obeys hp _ (L.source_enter _ (by split <;> decide) h (source_obeys hp _))
      · exact hp

theorem takeRequest_obeys (m : Sender) (r : Request) : (takeRequest m r p).1.obeys L := by
  have hc : p.countRequest.obeys L := hp
  by_cases h : setsLedger r = false
  · exact Part.obeys_of_ledger (carryOut_ledger _ m h) hc
  · cases r <;> try exact absurd rfl h
    case writeTopology => exact writeTopology_obeys hc ..
    case sourceServiceOut => exact requestServiceOut_obeys hc ..
    case sourceServiceIn => exact requestServiceIn_obeys hc ..
    case clearFaults =>
      obtain ⟨hsources, hoperates, _⟩ := hc
      exact ⟨hsources, hoperates, L.faults_init⟩

end

/-! ### Every hand-off, and every step -/

/-- A hand-off that may change the ledger. -/
def Task.setsLedger : Task → Bool
  | .reading .. | .stateReport .. | .genstat .. | .request .. | .slewInstant | .pickupExpiry _ | .restart => true
  | .unitGone _ | .unitLost _ | .pointBlind _ | .sourceReading .. | .busFault .. | .select _ => true
  | .guardTripped | .recordFault _ | .handOver | .reportEntry .. => true
  | _ => false

theorem runTask_ledger {t : Task} (ht : t.setsLedger = false) (p : Part) : (runTask t p).1.ledger = p.ledger := by
  cases t <;> simp [Task.setsLedger] at ht <;> simp [runTask]

theorem runTask_obeys (t : Task) (p : Part) (hp : p.obeys L) : (runTask t p).1.obeys L := by
  by_cases ht : t.setsLedger = false
  · exact Part.obeys_of_ledger (runTask_ledger ht p) hp
  · cases t <;> try exact absurd rfl ht
    case reading => exact Part.obeys_of_ledger (takeReading_ledger ..) hp
    case stateReport => exact takeReport_obeys hp ..
    case genstat => exact takeGenstat_obeys hp ..
    case request => exact takeRequest_obeys hp ..
    case slewInstant => exact slewInstant_obeys hp
    case pickupExpiry => exact pickupExpiry_obeys hp _
    case restart => exact restart_obeys hp
    case unitGone => exact unitGone_obeys hp _
    case unitLost => exact unitLost_obeys hp _
    case pointBlind => exact pointBlind_obeys hp _
    case sourceReading => exact sourceReading_obeys hp ..
    case busFault => exact busFault_obeys hp ..
    case select => exact select_obeys hp _
    case guardTripped => exact guardTripped_obeys hp
    case recordFault => exact recordFault_obeys hp _
    case handOver => exact handOver_obeys hp
    case reportEntry => exact reportEntry_obeys hp ..

/-- Every hand-off, the clock and POWER_ON keep the law, and so does every step. -/
theorem step_obeys (L : RecordLaw) (s t : State) (hs : s.part.obeys L) (h : step s = .next t) : t.part.obeys L := by
  refine step_keeps (Part.obeys · L) runTask_obeys (fun straps n => ⟨fun i => ?_, L.operates_nil, L.faults_init⟩)
    (fun _ hp => tick_obeys hp) (fun _ _ hp => hp) s t hs h
  exact (powerOn_source straps i).symm ▸ L.source_init

end Sys2Proof.Machine
end

section
/-! PROOF. O13: every step keeps excursions with RIDING sources, and pickup timers running in RISING ones only. -/

namespace Sys2Proof.Machine

/-- An excursion is in progress in RIDING, and a pickup timer runs in RISING only (R46, R47, R51). -/
def SourceRecord.sound (q : SourceRecord) : Prop :=
  q.excursion.isSome = (q.state == .riding) ∧ (q.pickup.isRunning = true → q.state = .rising)

/-- With no excursion and its pickup timer stopped, a source that is not RIDING is sound. -/
theorem SourceRecord.sound_resting {q : SourceRecord} (he : q.excursion = none) (hp : q.pickup.isRunning = false)
    (hs : q.state ≠ .riding) : q.sound := by
  simp [SourceRecord.sound, he, hp, hs]

/-- A source that leaves service, or can no longer be judged, rests (R43, R44). -/
theorem SourceRecord.sound_leave (q : SourceRecord) {st : SourceState} (hst : st ≠ .riding) : (q.leave st).sound := by
  refine SourceRecord.sound_resting ?_ rfl hst
  simp only [SourceRecord.leave, SourceRecord.abandon, SourceRecord.endExcursion]
  split
  · rfl
  · assumption

namespace SourceRecord.sound

variable {q : SourceRecord} (h : q.sound)
include h

theorem excursion_none (hs : q.state ≠ .riding) : q.excursion = none := by
  have he := h.1
  rw [beq_eq_false_iff_ne.mpr hs] at he
  exact Option.not_isSome_iff_eq_none.mp (by simp [he])

theorem pickup_still (hs : q.state ≠ .rising) : q.pickup.isRunning = false := by
  simpa [hs] using h.2

/-- A source that is neither RIDING nor RISING may take any state but RIDING. -/
theorem enter {st : SourceState} (hst : st ≠ .riding) (hr : q.state ≠ .riding) (hp : q.state ≠ .rising) :
    { q with state := st }.sound :=
  sound_resting (h.excursion_none hr) (h.pickup_still hp) hst

theorem stop : { q with pickup := .stopped }.sound := ⟨h.1, by simp⟩

theorem rise (k : SourceSettings) (accept : Bool) (hs : q.state ≠ .riding) : (q.rise k accept).sound :=
  ⟨by simp [SourceRecord.rise, h.excursion_none hs], fun _ => rfl⟩

theorem ride (k : SourceSettings) (r : Reading) {e : Excursion} (hs : q.state = .riding) : (q.ride k r e).sound := by
  have hp := h.pickup_still (by simp [hs])
  have hon (e : Excursion) : { q with excursion := some e }.sound := ⟨by simp [hs], by simp [hp]⟩
  unfold SourceRecord.ride
  dsimp only
  split
  · split
    · exact sound_resting rfl hp (by simp)
    · exact hon _
  · split
    · exact sound_resting rfl hp (by simp)
    · exact hon _

theorem judge (k : SourceSettings) (r : Reading) : (q.judge k r).sound := by
  unfold SourceRecord.judge
  split
  case h_1 => exact h
  case h_2 hs =>
    split
    · exact h
    · exact h.rise k _ (by simp [hs])
  case h_3 hs =>
    have he := h.excursion_none (by simp [hs])
    split
    · exact sound_resting he rfl (by simp)
    · split
      · exact ⟨h.1, fun _ => hs⟩
      · exact h.stop
  case h_4 hs =>
    split
    · exact h
    · exact ⟨rfl, by simp [h.pickup_still (by simp [hs])]⟩
  case h_5 hs =>
    split
    · exact h.ride k r hs
    · exact h
  case h_6 hs =>
    split
    · exact h.enter (by decide) (by simp [hs]) (by simp [hs])
    · split
      · exact h.rise k _ (by simp [hs])
      · exact h
  case h_7 hs =>
    split
    · exact h.rise k _ (by simp [hs])
    · split <;> exact h.enter (by decide) (by simp [hs]) (by simp [hs])

end SourceRecord.sound

/-- The law that the source records are sound. -/
def soundSources : RecordLaw where
  source := SourceRecord.sound
  faults _ := True
  operates _ := True
  source_init := ⟨rfl, by simp [SourceRecord.init]⟩
  source_judge k r h := h.judge k r
  source_leave _ hst _ := SourceRecord.sound_leave _ hst
  source_enter _ hst ho h := h.enter hst (by simp [ho]) (by simp [ho])
  source_pickedUp hr h := SourceRecord.sound_resting (h.excursion_none (by simp [hr])) rfl (by simp)
  source_stop h := h.stop
  source_count _ h := ⟨h.1, by simpa using h.2⟩
  source_gen _ h := h
  faults_init := trivial
  faults_record _ _ := trivial
  operates_nil := trivial
  operates_add _ _ := trivial

/-- Settles O13: source by source, judging, leaving, entering and counting keep a source record sound. -/
theorem stepsKeepTheSourcesSound : Obligations.StepsKeepTheSourcesSound :=
  fun s t hs h => (step_obeys soundSources s t ⟨hs, trivial, trivial⟩ h).1

end Sys2Proof.Machine
end

section
/-! PROOF. O16: every step keeps the histories, the operate record and the Fault Log within their depths. -/

namespace Sys2Proof.Machine

/-! ### The excursion history (R51) -/

theorem length_drop_le {α : Type} (l : List α) (depth : Nat) : (l.drop (l.length - depth)).length ≤ depth := by
  simp
  omega

/-- A history that is within its depth stays so: a ninth record removes one. -/
theorem endExcursion_bounded {q : SourceRecord} (o : ExcursionOutcome) (f : Excursion → Nat)
    (h : q.history.length ≤ historyDepth) : (q.endExcursion o f).history.length ≤ historyDepth := by
  unfold SourceRecord.endExcursion
  split
  · exact length_drop_le _ _
  · exact h

theorem judge_bounded {q : SourceRecord} (k : SourceSettings) (r : Reading) (h : q.history.length ≤ historyDepth) :
    (q.judge k r).history.length ≤ historyDepth := by
  unfold SourceRecord.judge
  split
  case h_5 =>
    split
    · unfold SourceRecord.ride
      dsimp only
      split
      · split
        · exact endExcursion_bounded _ _ h
        · exact h
      · split
        · exact endExcursion_bounded _ _ h
        · exact h
    · exact h
  all_goals
    repeat' split
    all_goals exact h

/-! ### The Fault Log (R193) -/

/-- A fault fills the slots in their order, and is dropped only where both are taken. -/
theorem FaultLog.record_sound {log : FaultLog} (r : FaultRecord) (h : log.sound) : (log.record r).sound := by
  obtain ⟨hsecond, hdropped⟩ := h
  unfold FaultLog.record
  dsimp only
  split
  · exact ⟨fun _ => rfl, hdropped⟩
  · next hf _ => exact ⟨fun _ => by simp [hf], fun _ => rfl⟩
  · next hf hs =>
    repeat' split
    · exact ⟨fun _ => rfl, hdropped⟩
    · exact ⟨fun _ => by simp [hf], fun _ => rfl⟩
    · exact ⟨fun _ => by simp [hf], fun _ => by simp [hs]⟩

/-- The law that the kept records are within their depths. -/
def boundedRecords : RecordLaw where
  source q := q.history.length ≤ historyDepth
  faults := FaultLog.sound
  operates rows := rows.length ≤ operateDepth
  source_init := Nat.zero_le _
  source_judge k r h := judge_bounded k r h
  source_leave _ _ h := endExcursion_bounded .abandoned (·.last) h
  source_enter _ _ _ h := h
  source_pickedUp _ h := h
  source_stop h := h
  source_count _ h := h
  source_gen _ h := h
  faults_init := ⟨by simp [FaultLog.init], by simp [FaultLog.init]⟩
  faults_record r h := FaultLog.record_sound r h
  operates_nil := Nat.zero_le _
  operates_add _ _ := length_drop_le _ _

/-- Settles O16: a record that is added past a depth removes one, and faults fill the slots in order. -/
theorem stepsKeepTheRecordsBounded : Obligations.StepsKeepTheRecordsBounded :=
  fun s t hs h => step_obeys boundedRecords s t hs h

end Sys2Proof.Machine
end

section
/-! SUPPORT. Hand-offs that find nothing to do, and events whose hand-offs change the load records only. -/

namespace Sys2Proof.Machine

/-! ### Hand-offs that find nothing to do -/

section

variable {p : Part}

/-- A point is evaluated for no attempt (R141). -/
theorem evaluate_of_noOpenAttempt (h : p.noOpenAttempt = true) (pt : Point) : runTask (.evaluate pt) p = (p, []) := by
  rw [runTask, evaluate]
  split
  · next a ha =>
    have ho : a.open = false := by simpa [Part.noOpenAttempt, ha] using h
    simp [ho]
  · rfl

theorem currentStep_of_no_plan (h : p.exec.plan = none) : p.currentStep = none := by simp [Part.currentStep, h]

theorem waitDeadCheck_of_no_plan (h : p.exec.plan = none) (pt : Point) : runTask (.waitDeadCheck pt) p = (p, []) := by
  simp [runTask, waitDeadCheck, currentStep_of_no_plan h]

theorem runCheck_of_no_plan (h : p.exec.plan = none) (i : Src) : runTask (.runCheck i) p = (p, []) := by
  simp [runTask, runCheck, currentStep_of_no_plan h]

theorem healthCheck_of_no_plan (h : p.exec.plan = none) (i : Src) : runTask (.healthCheck i) p = (p, []) := by
  simp [runTask, healthCheck, currentStep_of_no_plan h]

/-- A WAITHEALTHY step goes on only for a source that is HEALTHY (R126). -/
theorem healthCheck_of_not_healthy {i : Src} (h : (p.source i).state ≠ .healthy) :
    runTask (.healthCheck i) p = (p, []) := by
  rw [runTask, healthCheck]
  split
  · rw [if_neg]
    rintro ⟨_, rfl, hs⟩
    exact h hs
  · rfl

/-- A change of state to another than FAILED judges the return timers (R42, R73). -/
theorem drains_sourceChanged {i : Src} (hs : (p.source i).state ≠ .failed)
    (hh : (p.source i).state ≠ .healthy ∨ p.exec.plan = none) : Drains [.sourceChanged i] p p.judgeReturns 2 := by
  refine drains_cons ?_
  have ht : runTask (.sourceChanged i) p = (p.judgeReturns, [.healthCheck i]) := by
    simp [runTask, sourceChanged, hs]
  rw [ht]
  refine drains_single ?_ (drains_nil _)
  rcases hh with hh | hh
  · exact healthCheck_of_not_healthy (p := p.judgeReturns) hh
  · exact healthCheck_of_no_plan (p := p.judgeReturns) hh i

end

/-! ### Events that settle -/

/-- The event of a hand-off that comes to a part from which the hand-offs that are left settle. -/
theorem stationEvent_of_settles {s : State} {t : Task} {q : Part} {ts : List Task} {b k : Nat} (hs : s.serves)
    (h : ∀ r n, Drains ts q r n → Drains [t] s.part r (n + k)) (h' : Settles ts q b)
    (hb : b + k ≤ Config.eventBound) :
    ∃ u, Host.Outcome.next (s.stationEvent t) = (.next u : Out) ∧ u.work = [] ∧ u.pending = s.pending ∧
      q.sameButLoad u.part := by
  obtain ⟨r, n, hn, hd, hsame⟩ := h'
  exact ⟨_, congrArg Host.Outcome.next (stationEvent_of_drains hs (h r n hd) (by omega)), hs.1, rfl, hsame⟩

/-- A hand-off that finds nothing to do, before hand-offs that settle. -/
theorem settles_idle {t : Task} {p : Part} {ts : List Task} {b : Nat} (h : runTask t p = (p, []))
    (h' : Settles ts p b) : Settles (t :: ts) p (b + 1) := by
  obtain ⟨q, n, hn, hd, hsame⟩ := h'
  exact ⟨q, n + 1, by omega, drains_single h hd, hsame⟩

end Sys2Proof.Machine
end

section
/-! PROOF. O34: a refused write changes nothing and gives its reason. -/

namespace Sys2Proof.Machine

/-- A write that a first test or a row's test refuses (R189). -/
theorem writeWith_refused_by_test {α : Type} {m : Sender} {table first count : Nat} {p : Part} {rows : Judged (List α)}
    {whole : List α → Option RefusedReason} {apply : List α → Res} {why : RefusedReason}
    (h : p.writeRefusal table first count = some why ∨
      (p.writeRefusal table first count = none ∧ rows = .error why)) :
    writeWith m table first count p rows whole apply = refused m why p := by
  rcases h with h | ⟨h, hr⟩
  · simp [writeWith, h]
  · simp [writeWith, h, hr]

/-- A request that its meaning refuses is only counted and answered (R185). -/
theorem requestEvent_refused {s : State} {m : Sender} {r : Request} {why : RefusedReason} (hs : s.serves)
    (hp : s.part.linkRests) (h : carryOut m r s.part.countRequest = refused m why s.part.countRequest) :
    (.next (s.requestEvent m r) : Out) = .next { s with part := s.part.onlyAnswers m (.refused why) [] } :=
  congrArg Host.Outcome.next (requestEvent_of_answer hs (Part.countRequest_rests hp) h)

/-- A request whose meaning is a write that a first test or a row's test refuses. -/
theorem requestEvent_write_refused {α : Type} {s : State} {m : Sender} {r : Request} {table first count : Nat}
    {rows : Judged (List α)} {whole : List α → Option RefusedReason} {apply : List α → Res} {why : RefusedReason}
    (hs : s.serves) (hp : s.part.linkRests)
    (hw : carryOut m r s.part.countRequest = writeWith m table first count s.part.countRequest rows whole apply)
    (h : s.part.writeRefusal table first count = some why ∨
      (s.part.writeRefusal table first count = none ∧ rows = .error why)) :
    (.next (s.requestEvent m r) : Out) = .next { s with part := s.part.onlyAnswers m (.refused why) [] } :=
  requestEvent_refused hs hp (hw.trans (writeWith_refused_by_test h))

/-- Settles O34: each write comes to the first test that fails, or to the first row that does. -/
theorem refusedWritesChangeNothing : Obligations.RefusedWritesChangeNothing := by
  intro m s first why hs hr refusal
  refine ⟨fun table rows h => ?_, fun rows h => ?_, fun rows h => ?topology, fun rows h => ?_, fun rows h => ?_,
    fun rows h => ?_, fun rows h => ?_, fun rows h => ?_, fun rows h => ?_, fun rows h => ?_⟩
  case topology =>
    refine requestEvent_write_refused hs hr (by rw [carryOut, writeTopology])
      (h.imp_right fun ⟨ht, hform, hwhy⟩ => ⟨ht, ?_⟩)
    have hform' : topologyWithAll rows first s.part.countRequest.topology = none := hform
    rw [hform', hwhy]
  · exact requestEvent_write_refused hs hr (by rw [carryOut, writeRows]) h
  · exact requestEvent_write_refused hs hr (by rw [carryOut, writeUnitMap]) (.inl h)
  · exact requestEvent_write_refused hs hr (by rw [carryOut, writeTemplates]) h
  · exact requestEvent_write_refused hs hr (by rw [carryOut, writeCandidateLists]) h
  · exact requestEvent_write_refused hs hr (by rw [carryOut, writeSourceSettings]) h
  · exact requestEvent_write_refused hs hr (by rw [carryOut, writeBreakerSettings]) (.inl h)
  · exact requestEvent_write_refused hs hr (by rw [carryOut, writeBusSettings]) h
  · exact requestEvent_write_refused hs hr (by rw [carryOut, writeGroupTable]) h
  · exact requestEvent_write_refused hs hr (by rw [carryOut, writePortTallies]) h

end Sys2Proof.Machine
end

section
/-! PROOF. O27: what each source state makes of a reading. -/

namespace Sys2Proof.Machine

/-- A DEAD reading is not IN-ACCEPT (R40). -/
theorem inAccept_of_isDead {k : SourceSettings} {r : Reading} (h : isDead k r = true) : inAccept k r = false := by
  simp [inAccept, h]

namespace SourceRecord

section

variable (q : SourceRecord) (k : SourceSettings) (r : Reading)

@[simp] theorem rise_state (accept : Bool) : (q.rise k accept).state = .rising := rfl

@[simp] theorem rise_isRunning (accept : Bool) : (q.rise k accept).pickup.isRunning = accept := by
  cases accept <;> rfl

/-- A recovered source has no excursion, and its dips count it (R49, R52). -/
theorem recovered_dips : q.recovered.dips = tick16 q.dips := by
  simp only [recovered, endExcursion]
  split <;> rfl

theorem recovered_excursion (e : Excursion) : { q with excursion := some e }.recovered.excursion = none := rfl

/-! ### A reading in each state (R43–R50) -/

variable {q}

theorem judge_out (h : q.state = .out) : q.judge k r = q := by simp [judge, h]

theorem judge_dead (h : q.state = .dead) :
    q.judge k r = if isDead k r then q else q.rise k (inAccept k r) := by simp [judge, h]

theorem judge_rising (h : q.state = .rising) :
    q.judge k r =
      if isDead k r then { q with state := .dead, pickup := .stopped }
      else { q with pickup := q.pickup.follow (inAccept k r) (ms k.pickup) } := by
  simp only [judge, h]
  cases inAccept k r <;> rfl

theorem judge_healthy (h : q.state = .healthy) :
    q.judge k r =
      if inHold k r then q
      else { q with state := .riding, excursion := some (Excursion.first (depthClass k r) r) } := by simp [judge, h]

theorem judge_riding (h : q.state = .riding) {e : Excursion} (he : q.excursion = some e) :
    q.judge k r = q.ride k r e := by simp [judge, h, he]

theorem judge_failed (h : q.state = .failed) :
    q.judge k r = if isDead k r then { q with state := .dead } else if inAccept k r then q.rise k true else q := by
  simp [judge, h]

/-- A DEAD reading and an IN-ACCEPT one exclude each other, so that their order does not matter (R44). -/
theorem judge_blind (h : q.state = .blind) :
    q.judge k r =
      if isDead k r then { q with state := .dead } else if inAccept k r then q.rise k true
      else { q with state := .failed } := by
  by_cases hd : isDead k r = true
  · simp [judge, h, hd, inAccept_of_isDead hd]
  · simp [judge, h, hd]

theorem ride_held {e : Excursion} (hh : inHold k r = true) :
    q.ride k r e =
      if k.recovery ≤ e.run + 1 then { { q with excursion := some (e.recover r) }.recovered with state := .healthy }
      else { q with excursion := some (e.recover r) } := if_pos hh

theorem ride_state {e : Excursion} (hs : q.state = .riding) (hh : inHold k r = false) :
    (q.ride k r e).state = if (e.extend (depthClass k r) r).reached k r.stamp then .failed else .riding := by
  simp only [ride, hh, Bool.false_eq_true, if_false]
  split
  · rfl
  · exact hs

end

end SourceRecord

/-- Settles O27: each clause is a state's own case of the judgement. -/
theorem readingsMoveSourcesBetweenStates : Obligations.ReadingsMoveSourcesBetweenStates := by
  intro q k r
  refine ⟨fun hs => q.judge_out k r hs, fun hs hd => ?dead, fun hs hd => ?rises, fun hs hd => ?falls,
    fun hs hd => ?rising, fun hs hh => ?holds, fun hs hh => ?dips, fun e hs he hh hrun => ?recovers,
    fun e hs he hh hrun => ?counts, fun e hs he hh => ?rides, fun hs => ?failed, fun hs => ?blind⟩
  case dead => simp [SourceRecord.judge_dead k r hs, hd]
  case rises => simp [SourceRecord.judge_dead k r hs, hd]
  case falls => simp [SourceRecord.judge_rising k r hs, hd]
  case rising => simp [SourceRecord.judge_rising k r hs, hd, hs]
  case holds => simp [SourceRecord.judge_healthy k r hs, hh]
  case dips => simp [SourceRecord.judge_healthy k r hs, hh]
  case recovers =>
    rw [SourceRecord.judge_riding k r hs he, SourceRecord.ride_held k r hh, if_pos hrun]
    exact ⟨rfl, q.recovered_excursion (e.recover r), SourceRecord.recovered_dips _⟩
  case counts =>
    rw [SourceRecord.judge_riding k r hs he, SourceRecord.ride_held k r hh, if_neg (Nat.not_le.mpr hrun)]
    exact ⟨hs, rfl⟩
  case rides => rw [SourceRecord.judge_riding k r hs he, SourceRecord.ride_state k r hs hh]
  case failed =>
    rw [SourceRecord.judge_failed k r hs]
    split
    · rfl
    · split <;> simp [hs]
  case blind =>
    rw [SourceRecord.judge_blind k r hs]
    split
    · rfl
    · split <;> simp

end Sys2Proof.Machine
end

section
/-! PROOF. O29: a GENSTAT replaces the generator record. -/

namespace Sys2Proof.Machine

theorem takeGenstat_generator {p : Part} {i : Src} (h : p.kind i = .generator) (b : GenReport) :
    takeGenstat i b p =
      (p.setSource i { p.source i with gen := genRecordOf b },
        [.genChanged i true (capacityDiffers (p.source i).gen (genRecordOf b))]) := by
  rw [takeGenstat, if_pos h]

/-- A generator record that is handed on where no entry of its source is SENT and no plan is held reaches the Load
Manager, where running or eighths changed (R53). -/
theorem settles_genChanged {p : Part} {i : Src} (hd : p.stoodDown) (hsent : p.sentTo (.source i) = [])
    (loadChanged : Bool) :
    Settles [.genChanged i true loadChanged] p (if loadChanged then 17 else 3) := by
  have hplan : p.exec.plan = none := hd.2.2.1
  have hentries : runTask (.sourceEntries i) p = (p, []) := by simp [runTask, sourceEntries, hsent]
  have hrun := runCheck_of_no_plan hplan i
  cases loadChanged
  case false =>
    exact settles_step (ts := [.sourceEntries i, .runCheck i]) rfl p.sameButLoad_refl
      (settles_idle hentries (settles_idle hrun (settles_nil p)))
  case true =>
    exact settles_step (ts := [.sourceEntries i, .runCheck i, .load]) rfl p.sameButLoad_refl
      (settles_idle hentries (settles_idle hrun (settles_load hd)))

/-- Settles O29: the record is replaced, and only a change of running or eighths goes beyond that. -/
theorem genstatReplacesTheGeneratorRecord : Obligations.GenstatReplacesTheGeneratorRecord := by
  intro s i b hs g q
  refine ⟨fun hk => ?_, fun hk hd hsent => ⟨fun hr he => ?_, ?_⟩⟩
  · exact congrArg Host.Outcome.next (stationEvent_of_no_task hs (if_neg hk))
  · have hsame : capacityDiffers (s.part.source i).gen (genRecordOf b) = false := by
      simp only [capacityDiffers, Bool.or_eq_false_iff, bne_eq_false_iff_eq]
      exact ⟨hr.symm, he.symm⟩
    have hplan : q.exec.plan = none := hd.2.2.1
    have hentries : runTask (.sourceEntries i) q = (q, []) :=
      congrArg (fun l : List CmdNum => (q, l.map Task.judgeSourceEntry)) hsent
    refine congrArg Host.Outcome.next (stationEvent_of_drains hs (n := 4) (drains_cons ?_) (by decide))
    rw [runTask, takeGenstat_generator hk, hsame]
    exact drains_cons (drains_single hentries (drains_single (runCheck_of_no_plan hplan i) (drains_nil q)))
  · refine stationEvent_of_settles hs (k := 1) (fun r n hr => drains_cons ?_)
      (settles_genChanged (p := q) hd hsent (capacityDiffers (s.part.source i).gen g)) (by split <;> decide)
    rw [runTask, takeGenstat_generator hk]
    exact hr

end Sys2Proof.Machine
end

section
/-! SUPPORT. What an accepted reading makes of its point, and of the live state of its bus (R32–R37, R68, R72). -/

namespace Sys2Proof.Machine

section

variable {p : Part} {pt : Point} {b : RawReading}

theorem takeReading_accepted (h : p.accepts pt b = true) :
    takeReading pt b p =
      let q := (p.point pt).store (readingOf b)
      (p.setPoint pt q,
        if b.valid then validTasks pt (readingOf b)
        else (if (p.point pt).seen && q.invalidRun == 3 then [.pointBlind pt] else []) ++ [.waitDeadCheck pt]) := by
  rw [Part.accepts, Bool.and_eq_true, Bool.and_eq_true, Bool.not_eq_true', Bool.not_eq_true', Bool.not_eq_true'] at h
  obtain ⟨⟨htest, hfuture⟩, hstale⟩ := h
  refine (if_neg (ne_true_of_eq_false htest)).trans ?_
  refine (if_neg (ne_true_of_eq_false hfuture)).trans ?_
  refine (if_neg (ne_true_of_eq_false hstale)).trans ?_
  change (if b.valid then _ else _) = _
  split <;> rfl

theorem takeReading_valid (h : p.accepts pt b = true) (hv : b.valid = true) :
    takeReading pt b p = (p.setPoint pt ((p.point pt).store (readingOf b)), validTasks pt (readingOf b)) := by
  simp [takeReading_accepted h, hv]

/-- An accepted reading that is not VALID is only stored while its point stays as it is (R34, R35). -/
theorem takeReading_invalid (h : p.accepts pt b = true) (hv : b.valid = false)
    (hb : (p.point pt).seen = false ∨ ((p.point pt).store (readingOf b)).invalidRun < 3) :
    takeReading pt b p = (p.setPoint pt ((p.point pt).store (readingOf b)), [.waitDeadCheck pt]) := by
  have hstays : ((p.point pt).seen && ((p.point pt).store (readingOf b)).invalidRun == 3) = false := by
    rcases hb with hb | hb
    · simp [hb]
    · simp [Nat.ne_of_lt hb]
  simp [takeReading_accepted h, hv, hstays]

/-- A VALID reading that is stored is the point's view (R33, R37). -/
theorem view_setPoint_store (p : Part) (pt : Point) {r : Reading} (hv : r.valid = true) :
    (p.setPoint pt ((p.point pt).store r)).view pt = some r := by
  simp [Part.view, Part.point_setPoint, PointRecord.store, hv]

end

/-- A bus record takes a live state: a bus that becomes DEAD times its dead-confirm and notes its feed, and another
change stops the timer (R68, R72). -/
def BusRecord.takeLive (r : BusRecord) (time : Nat) (shown : LiveState) : BusRecord :=
  if shown = r.live then r
  else if shown = .dead then { r with live := shown }.startDead time
  else { r with live := shown, deadConfirm := .stopped }

theorem Part.setBus_self (p : Part) (x : Bus) : p.setBus x (p.bus x) = p := by cases x <;> rfl

/-- The live state of a bus is taken, and a change reaches the Load Manager (R68). -/
theorem liveState_eq (x : Bus) (p : Part) :
    liveState x p =
      (p.setBus x ((p.bus x).takeLive (p.busSet x).deadConfirm (p.liveBy x)),
        if !decide (p.liveBy x = (p.bus x).live) then [.load] else []) := by
  unfold liveState BusRecord.takeLive
  dsimp only
  split
  · next h => simp [h, p.setBus_self]
  · next h => split <;> simp [h]

theorem liveBy_of_view {p : Part} {x : Bus} {r : Reading} (h : p.view (.bus x) = some r) :
    p.liveBy x =
      if (p.busSet x).live ≤ r.smallest then .live else if r.largest ≤ (p.busSet x).dead then .dead else .part := by
  simp only [Part.liveBy, h]

end Sys2Proof.Machine
end

section
/-! PROOF. O28: a bus reading gives the live state and times dead-confirm. -/

namespace Sys2Proof.Machine

/-- While the part stands down, only the Load Manager does anything about a reading once its bus has taken the live
state. -/
theorem settles_busTasks {p : Part} (hd : p.stoodDown) (x : Bus) (told : Bool) :
    Settles ((if told then [.load] else []) ++ [.evaluate (.bus x), .load, .waitDeadCheck (.bus x)]) p 30 := by
  have hrest {q : Part} (hq : q.stoodDown) : Settles [.evaluate (.bus x), .load, .waitDeadCheck (.bus x)] q 16 := by
    have ⟨_, _, _, hattempt, _⟩ := hq
    refine settles_idle (evaluate_of_noOpenAttempt hattempt _) (settles_cons (c := 1) (settles_load hq) fun u hu => ?_)
    obtain ⟨_, _, hplan, _⟩ := Part.stoodDown_of_sameButLoad hu hq
    exact settles_one (waitDeadCheck_of_no_plan hplan _) u.sameButLoad_refl
  cases told
  case false => exact settles_mono (hrest hd) (by omega)
  case true => exact settles_cons (settles_load hd) fun q hq => hrest (Part.stoodDown_of_sameButLoad hq hd)

/-- Settles O28: the reading is stored and viewed, the bus takes its live state, and the rest settles. -/
theorem busReadingsGiveTheLiveState : Obligations.BusReadingsGiveTheLiveState := by
  intro s x b hs hd ha hv r k old shown new
  have hview : (s.part.setPoint (.bus x) ((s.part.point (.bus x)).store r)).view (.bus x) = some r :=
    view_setPoint_store s.part (.bus x) hv
  have hshown : (s.part.setPoint (.bus x) ((s.part.point (.bus x)).store r)).liveBy x = shown := liveBy_of_view hview
  have hlive : runTask (.liveState x) (s.part.setPoint (.bus x) ((s.part.point (.bus x)).store r)) =
      ((s.part.setPoint (.bus x) ((s.part.point (.bus x)).store r)).setBus x new,
        if !decide (shown = old.live) then [.load] else []) := by
    rw [runTask, liveState_eq, hshown]
    rfl
  have hsettles := settles_busTasks
    (p := (s.part.setPoint (.bus x) ((s.part.point (.bus x)).store r)).setBus x new) hd x (!decide (shown = old.live))
  refine stationEvent_of_settles hs (k := 2) (fun u n hu => drains_cons (n := n + 1) ?_) hsettles (by decide)
  rw [runTask, takeReading_valid ha hv]
  refine drains_cons ?_
  rw [hlive]
  exact hu

end Sys2Proof.Machine
end

section
/-! PROOF. O30: pickup, unplanned-parallel, dead-confirm and return timers expire. -/

namespace Sys2Proof.Machine

/-- An event whose one effect beside the part it makes is a raise, while no take can follow (R85). -/
theorem event_of_raise {s : State} {t : Task} {p : Part} {c : Channel} (hs : s.calm)
    (h : runTask t s.part = (p, [.raise c])) (hd : p.stoodDown) : s.event t = { s with part := p.raised c } := by
  obtain ⟨hmode, hidle, _⟩ := hd
  obtain ⟨k, hk, hr⟩ := drains_raise hmode hidle c (drains_nil (p.raised c))
  have ht : Drains [t] s.part (p.raised c) (k + 1) := by
    refine drains_cons ?_
    rw [h]
    exact hr
  have : 4 < Config.eventBound := by decide
  exact event_of_drains hs ht (by omega)

theorem pickupExpiry_rising {p : Part} {i : Src} (hd : (p.source i).pickup.due = true)
    (hr : (p.source i).state = .rising) :
    pickupExpiry i p =
      (p.setSource i { p.source i with state := .healthy, pickup := .stopped }, [.sourceChanged i]) := by
  simp [pickupExpiry, hd, hr]

section

variable {p : Part} {x : Bus}

theorem unplannedExpiry_due (h : (p.bus x).unplanned.due = true) :
    unplannedExpiry x p =
      ((p.setBus x { p.bus x with unplanned := .stopped, unplannedMark := true }).raiseFlag .unplannedParallel, []) :=
  if_pos h

theorem deadConfirmExpiry_due (h : (p.bus x).deadConfirm.due = true) :
    deadConfirmExpiry x p =
      (p.setBus x { p.bus x with deadConfirm := .stopped },
        if !(p.bus x).lockout && p.exec.state == .idle && (p.bus x).feedAtDead != .unfed then [.raise (.lost x)]
        else []) :=
  (if_pos h).trans (apply_ite (Prod.mk _) _ _ _).symm

theorem returnExpiry_due (h : (p.bus x).returnTimer.due = true) :
    returnExpiry x p =
      ((p.setBus x { p.bus x with returnTimer := .stopped }).judgeReturn x, [.raise (.retn x)]) := if_pos h

end

/-- Settles O30: each expiry is due or does nothing; a raise made while the part stands down is only counted. -/
theorem sourceAndBusTimersExpire : Obligations.SourceAndBusTimersExpire := by
  refine ⟨fun s i hs => ⟨fun h => congrArg Host.Outcome.next ?_, fun hd hr hp => congrArg Host.Outcome.next ?_⟩, ?_⟩
  · exact event_of_no_task hs (if_neg (ne_true_of_eq_false h))
  · refine event_of_drains hs (n := 3) (drains_cons ?_) (by decide)
    rw [runTask, pickupExpiry_rising hd hr]
    have hstate : ((s.part.setSource i { s.part.source i with state := .healthy, pickup := .stopped }).source i).state =
        .healthy := by simp [Part.source_setSource]
    exact drains_sourceChanged (by simp [hstate]) (.inr hp)
  intro s x hs r
  refine ⟨fun h => ?_, fun h => ?_, fun h => ?_, fun h hno => ?_, fun h hl hf hd => ?_, fun h => ?_,
    fun h hd => ?_⟩ <;> refine congrArg Host.Outcome.next ?_
  · exact event_of_no_task hs (if_neg (ne_true_of_eq_false h))
  · exact event_of_no_task hs (unplannedExpiry_due h)
  · exact event_of_no_task hs (if_neg (ne_true_of_eq_false h))
  · have hraise : (!r.lockout && s.part.exec.state == .idle && r.feedAtDead != .unfed) = false := by
      rcases hno with hno | hno | hno <;> simp [hno]
    exact event_of_no_task hs ((deadConfirmExpiry_due h).trans (by rw [if_neg (ne_true_of_eq_false hraise)]))
  · have hraise : (!r.lockout && s.part.exec.state == .idle && r.feedAtDead != .unfed) = true := by
      obtain ⟨_, hidle, _⟩ := hd
      simp [hl, hf, hidle]
    exact event_of_raise hs ((deadConfirmExpiry_due h).trans (by rw [if_pos hraise])) hd
  · exact event_of_no_task hs (if_neg (ne_true_of_eq_false h))
  · exact event_of_raise hs (returnExpiry_due h) hd

end Sys2Proof.Machine
end

section
/-! PROOF. O46: SOURCE_SERVICE and RESET_BREAKER. -/

namespace Sys2Proof.Machine

theorem srcOfNumber_val (i : Src) : srcOfNumber (i.val + 1) = some i := indexOf_val 4 i

theorem srcOfNumber_out {n : Nat} (h : n = 0 ∨ 4 < n) : srcOfNumber n = none := indexOf_out 4 n h

theorem FedDomain.isEmpty_eq_false {d : FedDomain} : d.isEmpty = false ↔ d.a = true ∨ d.b = true := by
  cases d with | mk a b => cases a <;> cases b <;> simp [FedDomain.isEmpty]

/-- A source that leaves has its timer stopped and its excursion ABANDONED (R43, R51). -/
theorem SourceRecord.leave_eq (q : SourceRecord) (state : SourceState) :
    q.leave state =
      { q with
        state := state
        pickup := .stopped
        excursion := none
        history :=
          match q.excursion with
          | some e => addRecord (e.record .abandoned e.last) q.history
          | none => q.history } := by
  simp only [SourceRecord.leave, SourceRecord.abandon, SourceRecord.endExcursion]
  cases h : q.excursion with
  | none => simp [h]
  | some e => rfl

section

variable {s : State} {m : Sender} (hs : s.serves) (hr : s.part.linkRests)
include hs hr

/-- A request that is answered with no effect. -/
theorem requestEvent_answered {r : Request} {a : Answer}
    (h : carryOut m r s.part.countRequest = (s.part.countRequest, [.respond m a []])) :
    (.next (s.requestEvent m r) : Out) = .next { s with part := s.part.onlyAnswers m a [] } :=
  congrArg Host.Outcome.next (requestEvent_of_answer hs (Part.countRequest_rests hr) h)

/-- A request that moves a source to a state other than FAILED and HEALTHY, and is answered once the return timers are
judged (R42, R43, R73). -/
theorem requestEvent_sourceMoved {r : Request} {i : Src} {v : SourceRecord} (hf : v.state ≠ .failed)
    (hh : v.state ≠ .healthy)
    (h : carryOut m r s.part.countRequest =
      (s.part.countRequest.setSource i v, [.sourceChanged i, .respond m .done []])) :
    (.next (s.requestEvent m r) : Out) =
      .next { s with part := (s.part.countRequest.setSource i v).judgeReturns.answerWith m .done [] } := by
  have hv : ((s.part.countRequest.setSource i v).source i) = v := by simp [Part.source_setSource]
  refine congrArg Host.Outcome.next (requestEvent_of_drains hs (n := 2 + 3) ?_ (by decide))
  rw [h]
  exact drains_append (drains_sourceChanged (by rwa [hv]) (.inl (by rwa [hv])))
    (drains_respond (p := (s.part.countRequest.setSource i v).judgeReturns) hr m .done [])

theorem sourceServiceOut_event (i : Src) :
    let p := s.part.countRequest
    (.next (s.requestEvent m (.sourceServiceOut (i.val + 1))) : Out) =
      .next { s with
        part :=
          if (p.fedDomain i).a = true ∨ (p.fedDomain i).b = true then p.answerWith m (.refused .inUse) []
          else if (p.source i).state = .out then p.answerWith m .done []
          else (p.setSource i ((p.source i).leave .out)).judgeReturns.answerWith m .done [] } := by
  intro p
  have hc : carryOut m (.sourceServiceOut (i.val + 1)) p =
      if !(p.fedDomain i).isEmpty then refused m .inUse p
      else if (p.source i).state = .out then answered m [] (p, [])
      else answered m [] (p.setSource i ((p.source i).leave .out), [.sourceChanged i]) := by
    simp only [carryOut, requestServiceOut, srcOfNumber_val]
  by_cases hfed : (p.fedDomain i).isEmpty = false
  · rw [hfed] at hc
    rw [if_pos (FedDomain.isEmpty_eq_false.mp hfed)]
    exact requestEvent_answered hs hr hc
  · rw [Bool.not_eq_false] at hfed
    rw [hfed] at hc
    rw [if_neg (by simp [← FedDomain.isEmpty_eq_false, hfed])]
    by_cases hout : (p.source i).state = .out
    · rw [if_pos hout] at hc ⊢
      exact requestEvent_answered hs hr hc
    · rw [if_neg hout] at hc ⊢
      exact requestEvent_sourceMoved hs hr (by simp [SourceRecord.leave]) (by simp [SourceRecord.leave]) hc

theorem sourceServiceIn_event (i : Src) :
    let p := s.part.countRequest
    let v := { p.source i with state := if (p.point (.line i)).seen then .dead else .blind }
    (.next (s.requestEvent m (.sourceServiceIn (i.val + 1))) : Out) =
      .next { s with
        part :=
          if p.kind i = .unused then p.answerWith m (.refused .state) []
          else if (p.source i).state = .out then (p.setSource i v).judgeReturns.answerWith m .done []
          else p.answerWith m .done [] } := by
  intro p v
  have hc : carryOut m (.sourceServiceIn (i.val + 1)) p =
      if p.kind i = .unused then refused m .state p
      else if (p.source i).state = .out then answered m [] (p.setSource i v, [.sourceChanged i])
      else answered m [] (p, []) := by
    simp only [carryOut, requestServiceIn, srcOfNumber_val]
    rfl
  have hv : v.state = .dead ∨ v.state = .blind := by
    change (if _ then _ else _) = _ ∨ (if _ then _ else _) = _
    split
    · exact .inl rfl
    · exact .inr rfl
  by_cases hk : p.kind i = .unused
  · rw [if_pos hk] at hc ⊢
    exact requestEvent_answered hs hr hc
  · rw [if_neg hk] at hc ⊢
    by_cases hout : (p.source i).state = .out
    · rw [if_pos hout] at hc ⊢
      exact requestEvent_sourceMoved hs hr (by rcases hv with h | h <;> simp [h]) (by rcases hv with h | h <;> simp [h])
        hc
    · rw [if_neg hout] at hc ⊢
      exact requestEvent_answered hs hr hc

end

/-- A FAILED breaker that is reset reaches the Load Manager, and the request is answered behind it (R64, log 26). -/
theorem resetBreaker_event {s : State} {m : Sender} {b : Breaker} (hs : s.serves) (hr : s.part.linkRests)
    (hb : (s.part.breaker b).failed = true) (hd : s.part.stoodDown) :
    let p := s.part.countRequest
    ∃ t, (.next (s.requestEvent m (.resetBreaker b.number)) : Out) = .next t ∧ t.work = [] ∧ t.pending = s.pending ∧
      ((p.setBreaker b { p.breaker b with failed := false }).answerWith m .done []).sameButLoad t.part := by
  intro p
  have hfailed : (p.breaker b).failed = true := hb
  have hc : carryOut m (.resetBreaker b.number) p =
      (p.setBreaker b { p.breaker b with failed := false }, [.load, .respond m .done []]) := by
    simp [carryOut, requestResetBreaker, Breaker.ofNumber_number, hfailed, answered]
  have hload : Settles [.load] (p.setBreaker b { p.breaker b with failed := false }) 14 := settles_load hd
  obtain ⟨q, n, hn, hq, hsame⟩ := drains_respond_of_settles hload hr m .done []
  have : 17 < Config.eventBound := by decide
  refine ⟨_, congrArg Host.Outcome.next (requestEvent_of_drains hs (q := q) (n := n) ?_ (by omega)), hs.1, rfl, hsame⟩
  rw [hc]
  exact hq

/-- Settles O46: a source is moved or the request is refused, and a breaker reset reaches the Load Manager. -/
theorem serviceRequestsMoveSourcesAndBreakers : Obligations.ServiceRequestsMoveSourcesAndBreakers := by
  refine ⟨fun m s n hs hr => ⟨fun hn => ⟨?_, ?_⟩, ?_⟩, fun m s hs hr => ⟨fun n hn => ?_, fun b => ⟨fun hb => ?_,
    fun hb hd => ?_⟩⟩⟩
  · exact requestEvent_refused hs hr (by simp only [carryOut, requestServiceOut, srcOfNumber_out hn])
  · exact requestEvent_refused hs hr (by simp only [carryOut, requestServiceIn, srcOfNumber_out hn])
  · rintro i rfl
    refine ⟨?_, sourceServiceIn_event hs hr i⟩
    have h := sourceServiceOut_event hs hr (m := m) i
    dsimp only at h
    rw [SourceRecord.leave_eq] at h
    exact h
  · exact requestEvent_refused hs hr (by simp only [carryOut, requestResetBreaker, Breaker.ofNumber_out hn])
  · have hb' : (s.part.countRequest.breaker b).failed = false := hb
    refine requestEvent_answered hs hr ?_
    simp [carryOut, requestResetBreaker, Breaker.ofNumber_number, hb', answered]
  · exact resetBreaker_event hs hr hb hd

end Sys2Proof.Machine
end

section
/-! PROOF. O26: an accepted line reading is stored and judged. -/

namespace Sys2Proof.Machine

/-! ### LOST raised for the buses of a failed source (R71) -/

/-- LOST is raised for a bus that is not in LOCKOUT (R71), and no take can follow (R85). -/
def Part.lostRaised (p : Part) (x : Bus) : Part := if (p.bus x).lockout = false then p.raised (.lost x) else p

/-- The buses that a source alone feeds (R66). -/
def Part.fedAlone (p : Part) (i : Src) : List Bus := allBuses.filter (fun x => (p.bus x).feed == .fed i)

section

variable (p : Part) (x : Bus)

theorem Part.lostRaised_eq : ∃ v, p.lostRaised x = { p with channels := v } := by
  unfold lostRaised
  split
  · exact ⟨_, rfl⟩
  · exact ⟨p.channels, rfl⟩

/-- Raises that no take can follow change the channels only (R85). -/
theorem foldl_lostRaised_eq (xs : List Bus) : ∃ v, xs.foldl Part.lostRaised p = { p with channels := v } := by
  induction xs generalizing p with
  | nil => exact ⟨p.channels, rfl⟩
  | cons x xs ih =>
    obtain ⟨v, hv⟩ := p.lostRaised_eq x
    obtain ⟨w, hw⟩ := ih (p.lostRaised x)
    exact ⟨w, by rw [List.foldl_cons, hw, hv]⟩

theorem Part.judgeReturns_lockout : (p.judgeReturns.bus x).lockout = (p.bus x).lockout := by cases x <;> rfl

end

/-- LOST of several buses raised in turn, where no take can follow. -/
theorem drains_raiseLosts {xs : List Bus} {p q : Part} {ts : List Task} {n : Nat}
    (h : xs = [] ∨ p.arbiter.mode = .halted ∧ p.exec.state = .idle)
    (hd : Drains ts (xs.foldl Part.lostRaised p) q n) :
    ∃ k, k ≤ n + 4 * xs.length ∧ Drains (xs.map .raiseLost ++ ts) p q k := by
  induction xs generalizing p with
  | nil => exact ⟨n, le_rfl, hd⟩
  | cons x xs ih =>
    obtain ⟨hmode, hidle⟩ := h.resolve_left nofun
    obtain ⟨v, hv⟩ := p.lostRaised_eq x
    obtain ⟨k, hk, hrest⟩ := ih (p := p.lostRaised x) (.inr (by rw [hv]; exact ⟨hmode, hidle⟩)) hd
    rw [List.length_cons]
    by_cases hl : (p.bus x).lockout = false
    · have ht : runTask (.raiseLost x) p = (p, [.raise (.lost x)]) := by simp [runTask, raiseLost, hl]
      rw [Part.lostRaised, if_pos hl] at hrest
      obtain ⟨j, hj, hraise⟩ := drains_raise hmode hidle (.lost x) hrest
      refine ⟨j + 1, by omega, drains_cons ?_⟩
      rw [ht]
      exact hraise
    · have ht : runTask (.raiseLost x) p = (p, []) := by simp [runTask, raiseLost, hl]
      rw [Part.lostRaised, if_neg hl] at hrest
      exact ⟨k + 1, by omega, drains_single ht hrest⟩

/-- A source that has become FAILED judges the return timers, and raises LOST for the buses that it alone feeds (R71,
R73). -/
theorem drains_sourceFailed {p : Part} {i : Src} (hs : (p.source i).state = .failed)
    (h : p.fedAlone i = [] ∨ p.arbiter.mode = .halted ∧ p.exec.state = .idle) :
    ∃ k, k ≤ 10 ∧ Drains [.sourceChanged i] p ((p.fedAlone i).foldl Part.lostRaised p.judgeReturns) k := by
  have ht : runTask (.sourceChanged i) p = (p.judgeReturns, (p.fedAlone i).map .raiseLost ++ [.healthCheck i]) := by
    simp only [runTask, sourceChanged, hs, if_true]
    rfl
  have hlength : (p.fedAlone i).length ≤ 2 := List.length_filter_le ..
  have hhealth : runTask (.healthCheck i) ((p.fedAlone i).foldl Part.lostRaised p.judgeReturns) =
      ((p.fedAlone i).foldl Part.lostRaised p.judgeReturns, []) := by
    obtain ⟨v, hv⟩ := foldl_lostRaised_eq p.judgeReturns (p.fedAlone i)
    refine healthCheck_of_not_healthy ?_
    rw [hv]
    exact fun hh => absurd (hs.symm.trans hh) (by decide)
  obtain ⟨k, hk, hd⟩ := drains_raiseLosts (p := p.judgeReturns) h (drains_single hhealth (drains_nil _))
  refine ⟨k + 1, by omega, drains_cons ?_⟩
  rw [ht, List.append_nil]
  exact hd

/-- What a source's failure in `p` makes of `q` for one bus: LOST is raised where the source alone feeds it, and it is
not in LOCKOUT (R71). -/
def Part.lose (p : Part) (i : Src) (x : Bus) (q : Part) : Part :=
  if (p.bus x).feed = .fed i ∧ (p.bus x).lockout = false then q.raised (.lost x) else q

/-- The raises of LOST for the buses that a source alone feeds, bus by bus. -/
theorem foldl_lostRaised_fedAlone {p q : Part} (hl : ∀ x, (q.bus x).lockout = (p.bus x).lockout) (i : Src) :
    (p.fedAlone i).foldl Part.lostRaised q = p.lose i .b (p.lose i .a q) := by
  have hbus (x : Bus) {u : Part} (hu : (u.bus x).lockout = (p.bus x).lockout) :
      (if (p.bus x).feed == .fed i then u.lostRaised x else u) = p.lose i x u := by
    by_cases hf : (p.bus x).feed = .fed i <;> simp [Part.lose, Part.lostRaised, hu, hf]
  have hb : ((p.lose i .a q).bus .b).lockout = (p.bus .b).lockout := by
    refine Eq.trans ?_ (hl .b)
    unfold Part.lose
    split <;> rfl
  calc (p.fedAlone i).foldl Part.lostRaised q
      = allBuses.foldl (fun u x => if (p.bus x).feed == .fed i then u.lostRaised x else u) q := List.foldl_filter
    _ = p.lose i .b (p.lose i .a q) := by simp only [allBuses, List.foldl, hbus .a (hl .a), hbus .b hb]

/-! ### The reading's event -/

/-- The part once a VALID reading of a source's point is stored, and has made the source FAILED: the fault names the
source and shows the reading (R33, R50). -/
def Part.lineFailed (p : Part) (i : Src) (r : Reading) : Part :=
  ((p.setPoint (.line i) ((p.point (.line i)).store r)).setSource i ((p.source i).judge (p.srcSet i) r)).recordFault
    { blankFault .sourceFailed with source := some i, snapshots := [snapshotOf (.line i) r] }

theorem Part.lineFailed_source (p : Part) (i : Src) (r : Reading) :
    (p.lineFailed i r).source i = (p.source i).judge (p.srcSet i) r :=
  (Part.source_setSource ..).trans (if_pos rfl)

section

variable {p : Part} {i : Src} {r : Reading}

theorem sourceReading_same (h : ((p.source i).judge (p.srcSet i) r).state = (p.source i).state) :
    sourceReading i r p = (p.setSource i ((p.source i).judge (p.srcSet i) r), []) := if_pos h

theorem sourceReading_moved (h : ((p.source i).judge (p.srcSet i) r).state ≠ (p.source i).state)
    (hf : ((p.source i).judge (p.srcSet i) r).state ≠ .failed) :
    sourceReading i r p = (p.setSource i ((p.source i).judge (p.srcSet i) r), [.sourceChanged i]) :=
  (if_neg h).trans (if_neg hf)

/-- An entry to FAILED is recorded with a snapshot of the reading (R50). -/
theorem sourceReading_failed (h : ((p.source i).judge (p.srcSet i) r).state ≠ (p.source i).state)
    (hf : ((p.source i).judge (p.srcSet i) r).state = .failed) :
    sourceReading i r p =
      ((p.setSource i ((p.source i).judge (p.srcSet i) r)).recordFault
        { blankFault .sourceFailed with source := some i, snapshots := [snapshotOf (.line i) r] },
        [.sourceChanged i]) :=
  (if_neg h).trans (if_pos hf)

end

section

variable {s : State} {i : Src} {b : RawReading} (hs : s.serves) (ha : s.part.accepts (.line i) b = true)
  (hv : b.valid = true) (hplan : s.part.exec.plan = none) (hattempt : s.part.noOpenAttempt = true)
include hs ha hv hplan hattempt

/-- The event of a VALID reading, whose judgement leaves the executor and the attempt as they were: they find nothing to
do about it. -/
theorem exec_lineReading {q : Part} {n : Nat}
    (hd : Drains [.sourceReading i (readingOf b)]
      (s.part.setPoint (.line i) ((s.part.point (.line i)).store (readingOf b))) q n)
    (he : q.exec = s.part.exec) (hq : q.attempt = s.part.attempt) (hn : n + 3 ≤ Config.eventBound) :
    exec (.reading (.line i) b) s = .next { s with part := q } := by
  have hqplan : q.exec.plan = none := by rw [he, hplan]
  have hqattempt : q.noOpenAttempt = true := by
    unfold Part.noOpenAttempt at *
    rwa [hq]
  refine congrArg Host.Outcome.next (stationEvent_of_drains hs (drains_cons (n := n + 2) ?_) hn)
  rw [runTask, takeReading_valid ha hv]
  exact drains_append (us := [.evaluate (.line i), .waitDeadCheck (.line i)]) hd
    (drains_single (evaluate_of_noOpenAttempt hqattempt _)
      (drains_single (waitDeadCheck_of_no_plan hqplan _) (drains_nil q)))

/-- The event of a reading by which the source becomes FAILED, where no take can follow the raises of LOST. -/
theorem exec_lineReading_failed
    (hc : ((s.part.source i).judge (s.part.srcSet i) (readingOf b)).state ≠ (s.part.source i).state)
    (hf : ((s.part.source i).judge (s.part.srcSet i) (readingOf b)).state = .failed)
    (h : s.part.fedAlone i = [] ∨ s.part.arbiter.mode = .halted ∧ s.part.exec.state = .idle) :
    exec (.reading (.line i) b) s =
      .next { s with
        part := (s.part.fedAlone i).foldl Part.lostRaised (s.part.lineFailed i (readingOf b)).judgeReturns } := by
  have hstate : ((s.part.lineFailed i (readingOf b)).source i).state = .failed := by
    rw [Part.lineFailed_source]
    exact hf
  obtain ⟨k, hk, hd⟩ := drains_sourceFailed hstate h
  obtain ⟨v, hv'⟩ := foldl_lostRaised_eq (s.part.lineFailed i (readingOf b)).judgeReturns (s.part.fedAlone i)
  have : 14 < Config.eventBound := by decide
  refine exec_lineReading hs ha hv hplan hattempt (n := k + 1) (drains_cons ?_) ?_ ?_ (by omega)
  · rw [runTask, sourceReading_failed (p := s.part.setPoint _ _) hc hf]
    exact hd
  · rw [hv']
    rfl
  · rw [hv']
    rfl

end

/-- Settles O26: the reading is stored, and each change of the source's state has its hand-offs. -/
theorem lineReadingsAreStoredAndJudged : Obligations.LineReadingsAreStoredAndJudged := by
  intro s i b hs ha hplan hattempt r q stored judged
  refine ⟨fun hv hstays => ?_, fun hv hsame => ?_, fun hv hc hf => ?_, fun hv hc hf => ?_⟩
  · refine congrArg Host.Outcome.next (stationEvent_of_drains hs (n := 2) (drains_cons ?_) (by decide))
    rw [runTask, takeReading_invalid ha hv hstays]
    exact drains_single (waitDeadCheck_of_no_plan (p := stored) hplan _) (drains_nil _)
  · exact exec_lineReading hs ha hv hplan hattempt
      (drains_single (sourceReading_same (p := stored) hsame) (drains_nil _)) rfl rfl (by decide)
  · have hstate : ((stored.setSource i judged).source i) = judged := by simp [Part.source_setSource]
    refine exec_lineReading hs ha hv hplan hattempt (n := 3) (drains_cons ?_) rfl rfl (by decide)
    rw [runTask, sourceReading_moved (p := stored) hc hf]
    exact drains_sourceChanged (p := stored.setSource i judged) (by rwa [hstate]) (.inr hplan)
  · intro failed lose
    refine ⟨fun hno => ?_, fun hd => ?_⟩
    · have hnone : s.part.fedAlone i = [] := by simpa [Part.fedAlone, List.filter_eq_nil_iff] using fun x _ => hno x
      have h := exec_lineReading_failed hs ha hv hplan hattempt hc hf (.inl hnone)
      rw [hnone] at h
      exact h
    · have ⟨hmode, hidle, _⟩ := hd
      have h := exec_lineReading_failed hs ha hv hplan hattempt hc hf (.inr ⟨hmode, hidle⟩)
      have hl (x : Bus) : ((s.part.lineFailed i r).judgeReturns.bus x).lockout = (s.part.bus x).lockout :=
        Part.judgeReturns_lockout _ x
      rw [foldl_lostRaised_fedAlone hl] at h
      exact h

end Sys2Proof.Machine
end

section
/-! SUPPORT. What the plant, the master and the requests give the part: positions and feeding, points, station time, the
group table, the addressing and the run mode. Most functions that a hand-off runs leave all of it as it is, one lemma
for each; those that an accepted START can come to also hand off only their own kind in turn. -/

namespace Sys2Proof.Machine

/-- What the feed states and fed domains rest on, with the feed states and fed domains held (R66). -/
def Part.wiring (p : Part) : Topology × (Breaker → Position) × (FeedState × FeedState) × Vector FedDomain 4 :=
  (p.topology, fun b => (p.breaker b).position, (p.buses.a.feed, p.buses.b.feed), p.fedDomains)

/-- The run mode with the RUN output and halt requested (R78). -/
def ArbiterRecord.run (r : ArbiterRecord) : RunMode × Bool × Bool := (r.mode, r.runOut, r.halt)

/-- What the plant, the master and the requests give the part. -/
def Part.givens (p : Part) :
    (Topology × (Breaker → Position) × (FeedState × FeedState) × Vector FedDomain 4) ×
      (Vector PointRecord 6 × TimeBase × Vector GroupRow 16) × ResponseAddressing × (RunMode × Bool × Bool) :=
  (p.wiring, (p.points, p.time, p.groups), p.link.addressing, p.arbiter.run)

/-- The hand-offs that an accepted START can come to, none of which confirms an entry. -/
def Task.inner : Task → Bool
  | .startBus _ | .raise _ | .judgeTake | .judgePreempt | .afterStart | .select _ | .planEnded _ => true
  | .endEngagement _ | .arbiterIdle | .abort _ | .beginStep .. | .nextStep .. | .failStep .. | .shedNext .. => true
  | .windDown | .recordFault _ | .attemptDone | .handOver | .egress _ | .respond .. => true
  | .load | .shedStage _ | .shedRaised _ | .capacityShort | .restoreStage _ | .loadOutcome _ => true
  | .restoreOutcome _ | .loadStart => true
  | .stepEntry _ _ o | .attemptEntry _ o | .reportEntry _ o => o != .confirmed
  | _ => false

/-- A hand-off leaves the givens, and hands off only its own kind. -/
@[simp] abbrev Inner (p : Part) (r : Res) : Prop := r.1.givens = p.givens ∧ r.2.all Task.inner = true

theorem Part.wiring_of_givens {p q : Part} (h : q.givens = p.givens) : q.wiring = p.wiring := congrArg Prod.fst h

section

variable (p : Part)

/-- A part with the givens of `p` in their places has its givens, whatever else it holds. -/
@[simp] theorem Part.givens_mk {p : Part} {link : LinkState} {arb : ArbiterRecord}
    {map units srcSet src brkSet busSet channels templates cands sel ex cur prev guard sync att timer sch stages m free}
    (hl : link.addressing = p.link.addressing) (hm : arb.mode = p.arbiter.mode) (hr : arb.runOut = p.arbiter.runOut)
    (hh : arb.halt = p.arbiter.halt) :
    Part.givens ⟨link, map, units, p.time, p.points, srcSet, src, brkSet, p.breakers, p.topology, busSet, p.buses,
      p.fedDomains, arb, channels, templates, cands, sel, ex, cur, prev, guard, sync, att, timer, sch, p.groups, stages,
      m, free⟩ = p.givens := by
  simp only [Part.givens, ArbiterRecord.run, hl, hm, hr, hh]
  rfl

@[simp] theorem Part.setUnit_givens (i v) : (p.setUnit i v).givens = p.givens := rfl
@[simp] theorem Part.setSource_givens (i v) : (p.setSource i v).givens = p.givens := rfl
@[simp] theorem Part.setChannel_givens (i v) : (p.setChannel i v).givens = p.givens := rfl
@[simp] theorem Part.setStage_givens (i v) : (p.setStage i v).givens = p.givens := rfl
@[simp] theorem Part.setPort_givens (i v) : (p.setPort i v).givens = p.givens := rfl
@[simp] theorem Part.setSchedule_givens (v) : (p.setSchedule v).givens = p.givens := rfl
@[simp] theorem Part.setExec_givens (v) : (p.setExec v).givens = p.givens := rfl
@[simp] theorem Part.setManagement_givens (v) : (p.setManagement v).givens = p.givens := rfl
@[simp] theorem Part.setAttempt_givens (v) : (p.setAttempt v).givens = p.givens := rfl
@[simp] theorem Part.putEntry_givens (e) : (p.putEntry e).givens = p.givens := rfl
@[simp] theorem Part.dropEntry_givens (num) : (p.dropEntry num).givens = p.givens := rfl
@[simp] theorem Part.countSchedule_givens (f) : (p.countSchedule f).givens = p.givens := rfl
@[simp] theorem Part.refreshDue_givens : p.refreshDue.givens = p.givens := rfl
@[simp] theorem Part.accept_givens (target action owner t) : (p.accept target action owner t).1.givens = p.givens := rfl
@[simp] theorem Part.tally_givens (k f) : (p.tally k f).givens = p.givens := rfl
@[simp] theorem Part.nextSeq_givens : p.nextSeq.givens = p.givens := rfl
@[simp] theorem Part.bind_givens (r n) : (p.bind r n).givens = p.givens := rfl
@[simp] theorem Part.clearFlag_givens (f) : (p.clearFlag f).givens = p.givens := rfl
@[simp] theorem Part.recordFault_givens (r) : (p.recordFault r).givens = p.givens := rfl
@[simp] theorem Part.engage_givens (c e) : (p.engage c e).givens = p.givens := rfl
@[simp] theorem Part.updateRecord_givens (serial f) : (p.updateRecord serial f).givens = p.givens := rfl
@[simp] theorem Part.updateStep_givens (f) : (p.updateStep f).givens = p.givens := rfl
@[simp] theorem takeBack_givens : (takeBack p).givens = p.givens := rfl

/-- A breaker's record is replaced by one with its position. -/
@[simp] theorem Part.setBreaker_givens {b : Breaker} {v : BreakerRecord} (h : v.position = (p.breaker b).position) :
    (p.setBreaker b v).givens = p.givens := by
  have hp : (fun c => ((p.setBreaker b v).breaker c).position) = fun c => (p.breaker c).position := by
    funext c
    rw [Part.breaker_setBreaker]
    split
    · next e => rw [e, h]
    · rfl
  simp only [Part.givens, Part.wiring, hp]
  rfl

/-- A bus's record is replaced by one with its feed state. -/
@[simp] theorem Part.setBus_givens {x : Bus} {v : BusRecord} (h : v.feed = (p.bus x).feed) :
    (p.setBus x v).givens = p.givens := by
  have hf : ((p.setBus x v).buses.a.feed, (p.setBus x v).buses.b.feed) = (p.buses.a.feed, p.buses.b.feed) := by
    cases x with
    | a => exact Prod.ext h rfl
    | b => exact Prod.ext rfl h
  simp only [Part.givens, Part.wiring, hf]
  rfl

@[simp] theorem Part.judgeReturn_givens (x : Bus) : (p.judgeReturn x).givens = p.givens := by simp [Part.judgeReturn]

@[simp] theorem Part.judgeReturns_givens : p.judgeReturns.givens = p.givens := by simp [Part.judgeReturns]

@[simp] theorem Part.raiseFlag_givens (f : Flag) : (p.raiseFlag f).givens = p.givens := by
  simp only [Part.raiseFlag]
  split <;> rfl

@[simp] theorem Part.setIfStanding_givens (f : Flag) : (p.setIfStanding f).givens = p.givens := by
  unfold Part.setIfStanding
  split <;> simp

@[simp] theorem Part.judgeService_givens (b : Breaker) : (p.judgeService b).givens = p.givens := by
  unfold Part.judgeService
  split <;> simp

/-- Parts reached in turn, each with the givens of the one before it. -/
@[simp] theorem foldl_givens {α : Type} {f : Part → α → Part} (h : ∀ q a, (f q a).givens = q.givens)
    (l : List α) : (l.foldl f p).givens = p.givens := by
  induction l generalizing p with
  | nil => rfl
  | cons a l ih => exact (ih (f p a)).trans (h p a)

/-! ### The Load Manager, the Monitor and the Arbiter -/

@[simp] theorem load_inner : Inner p (load p) := ⟨rfl, rfl⟩

@[simp] theorem shedNow_inner (x : Bus) : Inner p (shedNow x p) := ⟨rfl, rfl⟩

@[simp] theorem shedStage_inner (x : Bus) : Inner p (shedStage x p) := by
  unfold shedStage
  dsimp only
  split
  · exact ⟨rfl, rfl⟩
  · split <;> exact ⟨rfl, rfl⟩

@[simp] theorem capacityShort_inner : Inner p (capacityShort p) := by
  unfold capacityShort
  split <;> simp

@[simp] theorem restoreStage_inner (x : Bus) : Inner p (restoreStage x p) := by
  obtain ⟨v, h | h⟩ := restoreStage_only p x <;> rw [h] <;> exact ⟨rfl, rfl⟩

@[simp] theorem shedRaised_inner (x : Bus) : Inner p (shedRaised x p) := by simp [shedRaised]

@[simp] theorem restoreOutcome_inner (c : Channel) : Inner p (restoreOutcome c p) := by
  simp only [restoreOutcome]
  repeat' split
  all_goals exact ⟨rfl, rfl⟩

@[simp] theorem loadOutcome_inner (c : Channel) : Inner p (loadOutcome c p) := by cases c <;> exact ⟨rfl, rfl⟩
@[simp] theorem loadStart_inner : Inner p (loadStart p) := ⟨rfl, rfl⟩

@[simp] theorem startBus_inner (x : Bus) : Inner p (startBus x p) := by
  unfold startBus
  dsimp only
  split <;> simp [Task.inner]

@[simp] theorem recordOutcome_inner (c : Channel) (o : ChannelOutcome) : Inner p (recordOutcome c o p) := by
  cases c <;> exact ⟨rfl, rfl⟩

@[simp] theorem raise_inner (c : Channel) : Inner p (raise c p) := by
  simp only [raise]
  split <;> exact ⟨rfl, rfl⟩

@[simp] theorem judgeTake_inner : Inner p (judgeTake p) := by
  unfold judgeTake
  split
  · exact ⟨rfl, rfl⟩
  · dsimp only
    split <;> simp [Task.inner]

@[simp] theorem takeRequested_givens (c : Channel) : (takeRequested c p).givens = p.givens := by cases c <;> rfl

@[simp] theorem handPlan_inner (pl : Plan) : Inner p (handPlan pl p) := by simp [handPlan, Task.inner]

@[simp] theorem select_inner (c : Channel) : Inner p (select c p) := by
  unfold select
  dsimp only
  split
  · simp
  · split <;> simp [Task.inner]

@[simp] theorem planEnded_inner (o : PlanOutcome) : Inner p (planEnded o p) := by
  unfold planEnded
  split <;> simp

@[simp] theorem endEngagement_inner (c : Channel) : Inner p (endEngagement c p) := by
  unfold endEngagement
  split <;> exact ⟨rfl, rfl⟩

/-- With halt not requested, the Arbiter leaves the run mode as it is when a plan's end leaves the executor IDLE. -/
theorem arbiterIdle_givens (h : p.arbiter.halt = false) : (arbiterIdle p).1.givens = p.givens := by
  unfold arbiterIdle
  dsimp only
  rw [if_neg (by simp [h])]
  repeat' split
  all_goals rfl

@[simp] theorem arbiterIdle_wiring : (arbiterIdle p).1.wiring = p.wiring := by
  unfold arbiterIdle
  dsimp only
  repeat' split
  all_goals rfl

@[simp] theorem arbiterIdle_told : (arbiterIdle p).2.all Task.inner = true := by
  unfold arbiterIdle
  dsimp only
  repeat' split
  all_goals rfl

@[simp] theorem judgePreempt_inner : Inner p (judgePreempt p) := by
  unfold judgePreempt
  repeat' split
  all_goals exact ⟨rfl, rfl⟩

@[simp] theorem afterStart_inner : Inner p (afterStart p) := ⟨rfl, rfl⟩

@[simp] theorem Part.setBus_startDead_givens (x : Bus) (time : Nat) :
    (p.setBus x ((p.bus x).startDead time)).givens = p.givens := p.setBus_givens rfl

@[simp] theorem monitorIdle_givens : (monitorIdle p).givens = p.givens := by
  simp only [monitorIdle]
  split <;> split <;> simp

@[simp] theorem guardStarted_givens : (guardStarted p).givens = p.givens := rfl

@[simp] theorem guardEnded_givens : (guardEnded p).givens = p.givens := by
  have h (r : BusRecord) : (if r.feed = .parallel then { r with unplanned := .start unplannedTime } else r).feed =
      r.feed := by split <;> rfl
  simp only [guardEnded, Part.givens, Part.wiring, h]
  rfl

/-! ### Egress and the Command Scheduler -/

@[simp] theorem egress_inner (k : Port) : Inner p (egress k p) := by
  unfold egress
  repeat' split
  all_goals exact ⟨rfl, rfl⟩

@[simp] theorem placeResponse_givens (f : ResponseFrame) (k : Port) : (placeResponse f k p).givens = p.givens := by
  simp only [placeResponse]
  repeat' split
  all_goals rfl

@[simp] theorem placeCommand_givens (f : CommandFrame) (k : Port) : (placeCommand f k p).givens = p.givens := by
  unfold placeCommand
  split <;> rfl

@[simp] theorem acceptCommand_givens (f : CommandFrame) : (acceptCommand f p).givens = p.givens := by
  unfold acceptCommand
  split <;> simp

@[simp] theorem respond_inner (m : Sender) (a : Answer) (rows : List RowData) : Inner p (respond m a rows p) := by
  simp only [respond]
  split <;> simp [bothEgress, Task.inner]

@[simp] theorem attemptSent_givens (num : CmdNum) : (attemptSent num p).givens = p.givens := by
  unfold attemptSent
  repeat' split
  all_goals rfl

@[simp] theorem countOperation_givens (target : Target) : (countOperation target p).givens = p.givens := by
  cases target <;> simp [countOperation]

@[simp] theorem countInterlock_givens (b : Breaker) : (countInterlock b p).givens = p.givens := by
  simp [countInterlock]

@[simp] theorem sendEntry_inner (e : Entry) : Inner p (sendEntry e p) := by
  simp only [sendEntry]
  split <;> simp [bothEgress, Task.inner]

@[simp] theorem judgeHead_inner (e : Entry) : Inner p (judgeHead e p) := by
  unfold judgeHead
  dsimp only
  repeat' split
  all_goals simp [Task.inner]

@[simp] theorem offerCopy_givens (f : CommandFrame) (k : Port) : (offerCopy f k p).givens = p.givens := by
  unfold offerCopy
  split <;> simp

@[simp] theorem offerHeld_givens (c : HeldCopy) : (offerHeld c p).givens = p.givens := by
  simp only [offerHeld]
  split <;> split <;> simp

@[simp] theorem handOver_inner : Inner p (handOver p) := by
  unfold handOver
  dsimp only
  repeat' split
  all_goals simp [bothEgress, Task.inner]

theorem Part.insertEntry_givens {p q : Part} {target : Target} {action : Action} {owner : Owner} {timed : Option Nat}
    {num : CmdNum} (h : p.insertEntry target action owner timed = .ok (q, num)) : q.givens = p.givens := by
  unfold Part.insertEntry at h
  split at h
  · cases h
  · split at h <;> cases h
    rfl

@[simp] theorem Part.cancelEntry_givens (num : CmdNum) : (p.cancelEntry num).givens = p.givens := by
  unfold Part.cancelEntry
  split <;> rfl

theorem Part.retimeEntry_givens {p q : Part} {num : CmdNum} {t : Nat} (h : p.retimeEntry num t = some q) :
    q.givens = p.givens := by
  unfold Part.retimeEntry at h
  split at h
  · split at h <;> cases h
    rfl
  · cases h

/-! ### The Synchronising Unit -/

@[simp] theorem finishAttempt_givens (a st r) : (finishAttempt a st r p).givens = p.givens := rfl
@[simp] theorem endAttempt_inner (a st r) : Inner p (endAttempt a st r p) := ⟨rfl, rfl⟩

@[simp] theorem cancelAttemptEntry_givens (a : AttemptRecord) : (cancelAttemptEntry a p).1.givens = p.givens := by
  unfold cancelAttemptEntry
  split <;> simp

@[simp] theorem breakOff_inner (a st r) : Inner p (breakOff a st r p) := by simp [breakOff]

@[simp] theorem arm_inner (a : AttemptRecord) (tc : Nat) : Inner p (arm a tc p) := by
  unfold arm
  split
  · next h => simpa [Task.inner] using Part.insertEntry_givens h
  · simp

@[simp] theorem retime_inner (a : AttemptRecord) (tc : Nat) : Inner p (retime a tc p) := by
  unfold retime
  split
  · exact ⟨rfl, rfl⟩
  · split
    · exact ⟨rfl, rfl⟩
    · split
      · next h => simpa [Task.inner] using Part.retimeEntry_givens h
      · simp

@[simp] theorem disarm_givens (a : AttemptRecord) : (disarm a p).givens = p.givens := by simp [disarm]

@[simp] theorem evaluateAttempt_inner (a : AttemptRecord) : Inner p (evaluateAttempt a p) := by
  unfold evaluateAttempt
  dsimp only
  repeat' split
  all_goals simp

@[simp] theorem startAttempt_inner (b r i set c t n) : Inner p (startAttempt b r i set c t n p) :=
  evaluateAttempt_inner ..

@[simp] theorem attemptEntry_inner (num : CmdNum) (o : EntryOutcome) : Inner p (attemptEntry num o p) := by
  unfold attemptEntry
  repeat' split
  all_goals exact ⟨rfl, rfl⟩

@[simp] theorem abandonAttempt_givens : (abandonAttempt p).givens = p.givens := by
  unfold abandonAttempt
  dsimp only
  repeat' split
  all_goals simp

/-! ### The Plan Executor and its guard -/

@[simp] theorem endStep_givens (o) : (endStep o p).givens = p.givens := rfl
@[simp] theorem passStep_inner (o) : Inner p (passStep o p) := ⟨rfl, rfl⟩
@[simp] theorem waitTimer_inner (n) : Inner p (waitTimer n p) := ⟨rfl, rfl⟩
@[simp] theorem decideEnd_givens (o) : (decideEnd o p).givens = p.givens := rfl
@[simp] theorem cancelQueued_givens : (cancelQueued p).givens = p.givens := by simp [cancelQueued]

@[simp] theorem stepFault_told (r : Reason) : (stepFault r p).all Task.inner = true := by
  unfold stepFault
  split <;> rfl

@[simp] theorem failNow_inner (r : Reason) : Inner p (failNow r p) := by simp [failNow, Task.inner]

@[simp] theorem failStep_inner (serial step : Nat) (r : Reason) : Inner p (failStep serial step r p) := by
  unfold failStep
  split <;> simp

@[simp] theorem placeEntryFor_inner (target : Target) (action : Action) (group : Option Grp) :
    Inner p (placeEntryFor target action group p) := by
  unfold placeEntryFor
  dsimp only
  split
  · exact ⟨rfl, rfl⟩
  · split
    · exact ⟨rfl, rfl⟩
    · next h => simpa [Task.inner] using Part.insertEntry_givens h

@[simp] theorem beginShedFit_inner (s : Src) (buses : BusSet) : Inner p (beginShedFit s buses p) := by
  unfold beginShedFit
  dsimp only
  repeat' split
  all_goals simp [Task.inner]

@[simp] theorem beginSync_inner (b : Breaker) (r i : Point) (set : Fin 4) : Inner p (beginSync b r i set p) := by
  unfold beginSync
  repeat' split
  all_goals simp

@[simp] theorem beginKind_inner (s : Step) : Inner p (beginKind s p) := by
  cases s <;> simp only [beginKind, beginOpen, beginClose, beginRun, beginStop]
  all_goals repeat' split
  all_goals simp

@[simp] theorem shedNext_inner (serial step : Nat) (gs : List Grp) : Inner p (shedNext serial step gs p) := by
  unfold shedNext
  split
  · exact ⟨rfl, rfl⟩
  · next g rest =>
    obtain ⟨hg, ht⟩ := placeEntryFor_inner p (.breaker (.feeder g)) .opn (some g)
    split
    · exact ⟨hg, by simp only [List.all_append, ht]; rfl⟩
    · exact ⟨rfl, rfl⟩

@[simp] theorem beginStep_inner (serial step : Nat) : Inner p (beginStep serial step p) := by
  unfold beginStep
  repeat' split
  all_goals simp

@[simp] theorem nextStep_inner (serial step : Nat) : Inner p (nextStep serial step p) := by
  unfold nextStep
  dsimp only
  repeat' split
  all_goals exact ⟨rfl, rfl⟩

@[simp] theorem windDown_inner : Inner p (windDown p) := by
  unfold windDown
  dsimp only
  split
  · exact ⟨monitorIdle_givens _, rfl⟩
  · exact ⟨rfl, rfl⟩

@[simp] theorem decideAborted_inner : Inner p (decideAborted p) := ⟨rfl, rfl⟩

@[simp] theorem abandonStep_inner : Inner p (abandonStep p) := by
  unfold abandonStep
  split <;> simp

@[simp] theorem abort_inner (cause : AbortCause) : Inner p (abort cause p) := by
  unfold abort
  dsimp only
  repeat' split
  all_goals simp

@[simp] theorem settleAborted_inner : Inner p (settleAborted p) := by
  unfold settleAborted
  dsimp only
  repeat' split
  all_goals simp [Task.inner]

@[simp] theorem judgeGuard_givens (b : Breaker) (r i : Point) (set : Fin 4) :
    (judgeGuard b r i set p).givens = p.givens := by
  unfold judgeGuard
  dsimp only
  split <;> rfl

@[simp] theorem endGuard_givens (mark : GuardMark) : (endGuard mark p).givens = p.givens := by simp [endGuard]

@[simp] theorem guardEntry_inner (num : CmdNum) (serial : Nat) (o : EntryOutcome) :
    Inner p (guardEntry num serial o p) := by
  simp only [guardEntry]
  split <;> simp [Task.inner]

@[simp] theorem endParallel_givens (s : Step) : (endParallel s p).givens = p.givens := by
  unfold endParallel
  repeat' split
  all_goals simp

@[simp] theorem entryConfirmed_givens (s : Step) (told : List Task) :
    (entryConfirmed s told p).1.givens = p.givens := by
  unfold entryConfirmed
  dsimp only
  repeat' split
  all_goals simp

theorem entryConfirmed_told (s : Step) {told : List Task} (h : told.all Task.inner = true) :
    (entryConfirmed s told p).2.all Task.inner = true := by
  unfold entryConfirmed
  dsimp only
  repeat' split
  all_goals simp_all [passStep, Task.inner]

@[simp] theorem entryAborting_givens (s : Step) (r : Option Reason) (told : List Task) :
    (entryAborting s r told p).1.givens = p.givens := by
  simp only [entryAborting]
  split <;> simp

theorem entryAborting_told (s : Step) (r : Option Reason) {told : List Task} (h : told.all Task.inner = true) :
    (entryAborting s r told p).2.all Task.inner = true := by
  simp only [entryAborting, List.all_append, h, (settleAborted_inner _).2, Bool.and_true]

@[simp] theorem stepEntry_givens (num : CmdNum) (owner : Owner) (o : EntryOutcome) :
    (stepEntry num owner o p).1.givens = p.givens := by
  unfold stepEntry
  dsimp only
  repeat' split
  all_goals simp

/-- An entry that is resolved otherwise than by a confirmation sets no shed mark (R128). -/
theorem shedTold_of_not_confirmed {o : EntryOutcome} (h : o ≠ .confirmed) (group : Option Grp) :
    shedTold group o = [] := by
  unfold shedTold
  split
  · exact absurd rfl h
  · rfl

theorem stepEntry_told (num : CmdNum) (owner : Owner) {o : EntryOutcome} (h : o ≠ .confirmed) :
    (stepEntry num owner o p).2.all Task.inner = true := by
  unfold stepEntry
  dsimp only
  simp only [shedTold_of_not_confirmed h]
  split
  · split
    · split
      · rfl
      · split
        · split
          · exact entryConfirmed_told _ _ rfl
          · split
            · exact (failNow_inner ..).2
            · rfl
        · exact entryAborting_told _ _ _ rfl
    · rfl
  · rfl

@[simp] theorem attemptDone_inner : Inner p (attemptDone p) := by
  unfold attemptDone
  dsimp only
  repeat' split
  all_goals simp [Task.inner]

@[simp] theorem reportEntry_givens (e : Entry) (o : EntryOutcome) : (reportEntry e o p).1.givens = p.givens := by
  unfold reportEntry
  split <;> simp [operateEntry]

theorem reportEntry_told (e : Entry) {o : EntryOutcome} (h : o ≠ .confirmed) :
    (reportEntry e o p).2.all Task.inner = true := by
  unfold reportEntry
  split <;> simp [Task.inner, h]

end

/-- What an accepted START can come to leaves the givens, halt not being requested, and hands off only its own kind. -/
theorem runTask_inner {t : Task} (ht : t.inner = true) (p : Part) :
    (p.arbiter.halt = false → (runTask t p).1.givens = p.givens) ∧ (runTask t p).2.all Task.inner = true := by
  cases t <;> simp [Task.inner] at ht <;> simp only [runTask]
  case arbiterIdle => exact ⟨arbiterIdle_givens p, arbiterIdle_told p⟩
  case stepEntry => exact ⟨fun _ => stepEntry_givens .., stepEntry_told _ _ _ ht⟩
  case attemptEntry => exact ⟨fun _ => (attemptEntry_inner ..).1, (attemptEntry_inner ..).2⟩
  case reportEntry => exact ⟨fun _ => reportEntry_givens .., reportEntry_told _ _ ht⟩
  all_goals simp

end Sys2Proof.Machine
end

section
/-! SUPPORT. The other hand-offs, and the requests, leave the wiring as it is: positions, topology, feed states and fed
domains. -/

namespace Sys2Proof.Machine

section

variable (p : Part)

/-! ### Hand-offs that leave the givens too -/

@[simp] theorem unitLost_givens (role : Role) : (unitLost role p).1.givens = p.givens := by simp [unitLost]

@[simp] theorem breakerFails_givens (b : Breaker) : (breakerFails b p).givens = p.givens := by simp [breakerFails]

@[simp] theorem countUncommanded_givens (b : Breaker) : (countUncommanded b p).givens = p.givens := by
  cases b <;> simp [countUncommanded]

@[simp] theorem feedTold_givens : (feedTold p).1.givens = p.givens := rfl
@[simp] theorem raiseLost_givens (x) : (raiseLost x p).1.givens = p.givens := rfl

@[simp] theorem liveState_givens (x : Bus) : (liveState x p).1.givens = p.givens := by
  unfold liveState
  dsimp only
  split
  · rfl
  · split <;> exact p.setBus_givens rfl

@[simp] theorem deadConfirmExpiry_givens (x : Bus) : (deadConfirmExpiry x p).1.givens = p.givens := by
  unfold deadConfirmExpiry
  dsimp only
  repeat' split
  all_goals simp

@[simp] theorem busFault_givens (x : Bus) (b : Breaker) : (busFault x b p).1.givens = p.givens := by
  unfold busFault
  split <;> simp

@[simp] theorem returnExpiry_givens (x : Bus) : (returnExpiry x p).1.givens = p.givens := by
  unfold returnExpiry
  split <;> simp

@[simp] theorem unplannedExpiry_givens (x : Bus) : (unplannedExpiry x p).1.givens = p.givens := by
  simp only [unplannedExpiry]
  split <;> simp

@[simp] theorem offerForward_givens (k : Port) (bytes : List Byte) : (offerForward k bytes p).1.givens = p.givens := by
  simp only [offerForward]
  repeat' split
  all_goals rfl

@[simp] theorem placeStatus_givens (f : StatusFrame) (k : Port) : (placeStatus f k p).givens = p.givens := by
  unfold placeStatus
  split <;> rfl

@[simp] theorem portUp_givens (k : Port) : (portUp k p).1.givens = p.givens := by
  simp only [portUp]
  split <;> rfl

@[simp] theorem portDown_givens (k : Port) : (portDown k p).1.givens = p.givens := by
  simp only [portDown]
  split <;> rfl

@[simp] theorem transmitEnd_givens (k : Port) : (transmitEnd k p).1.givens = p.givens := by
  simp only [transmitEnd]
  split <;> rfl

@[simp] theorem takeIn_givens (k : Port) (bytes : List Byte) : (takeIn k bytes p).1.givens = p.givens := by
  unfold takeIn
  split <;> rfl

@[simp] theorem receive_givens (k : Port) (ok : Bool) (bytes : List Byte) :
    (receive k ok bytes p).1.givens = p.givens := by
  unfold receive
  dsimp only
  repeat' split
  all_goals simp

@[simp] theorem silenceExpiry_givens (r : Fin 32) : (silenceExpiry r p).1.givens = p.givens := by
  simp only [silenceExpiry]
  repeat' split
  all_goals rfl

@[simp] theorem mapFrame_givens (k : Port) (h : Header) (b : Body) : (mapFrame k h b p).1.givens = p.givens := by
  unfold mapFrame
  dsimp only
  repeat' split
  all_goals rfl

@[simp] theorem claimRow_givens (k : Port) (r : Fin 32) (n : Fin 255) : (claimRow k r n p).1.givens = p.givens := by
  rcases claimRow_cases p k r n with h | h | h | ⟨h, _⟩ | ⟨r2, h, _⟩ <;> simp [h]

@[simp] theorem announce_givens (k : Port) (f : AnnounceFrame) : (announce k f p).1.givens = p.givens :=
  announce_keeps p (fun q => q.givens = p.givens) rfl (fun _ _ => claimRow_givens ..) fun _ _ _ hq => hq

@[simp] theorem statusExpiry_givens : (statusExpiry p).1.givens = p.givens := by
  unfold statusExpiry
  split <;> simp

@[simp] theorem Part.insertGuard_givens (b : Breaker) (serial : Nat) :
    (p.insertGuard b serial).1.givens = p.givens := by
  simp only [Part.insertGuard]
  split <;> simp

@[simp] theorem entryDue_givens (num : CmdNum) : (entryDue num p).1.givens = p.givens := by
  unfold entryDue
  repeat' split
  all_goals rfl

@[simp] theorem resolve_givens (e o) : (resolve e o p).1.givens = p.givens := rfl
@[simp] theorem breakerEntries_givens (b) : (breakerEntries b p).1.givens = p.givens := rfl
@[simp] theorem sourceEntries_givens (s) : (sourceEntries s p).1.givens = p.givens := rfl

@[simp] theorem judgeBreakerEntry_givens (num : CmdNum) : (judgeBreakerEntry num p).1.givens = p.givens := by
  unfold judgeBreakerEntry
  repeat' split
  all_goals rfl

@[simp] theorem judgeSourceEntry_givens (num : CmdNum) : (judgeSourceEntry num p).1.givens = p.givens := by
  unfold judgeSourceEntry
  dsimp only
  repeat' split
  all_goals rfl

@[simp] theorem deadlineExpiry_givens (num : CmdNum) : (deadlineExpiry num p).1.givens = p.givens := by
  unfold deadlineExpiry
  dsimp only
  repeat' split
  all_goals simp

@[simp] theorem evaluate_givens (pt : Point) : (evaluate pt p).1.givens = p.givens := by
  unfold evaluate
  repeat' split
  all_goals simp

@[simp] theorem syncLimitExpiry_givens : (syncLimitExpiry p).1.givens = p.givens := by
  unfold syncLimitExpiry
  dsimp only
  repeat' split
  all_goals simp

@[simp] theorem timeQualityPoor_givens : (timeQualityPoor p).1.givens = p.givens := by
  unfold timeQualityPoor
  repeat' split
  all_goals simp

@[simp] theorem guardFeed_givens : (guardFeed p).1.givens = p.givens := by
  unfold guardFeed
  dsimp only
  split <;> simp

@[simp] theorem guardExpiry_givens : (guardExpiry p).1.givens = p.givens := by
  unfold guardExpiry
  split
  · exact p.insertGuard_givens p.guard.target p.guard.serial
  · rfl

@[simp] theorem guardTripped_givens : (guardTripped p).1.givens = p.givens := rfl

@[simp] theorem guardFailPlan_givens : (guardFailPlan p).1.givens = p.givens := by
  unfold guardFailPlan
  dsimp only
  repeat' split
  all_goals simp

@[simp] theorem waitDeadCheck_givens (pt : Point) : (waitDeadCheck pt p).1.givens = p.givens := by
  unfold waitDeadCheck
  repeat' split
  all_goals rfl

@[simp] theorem healthCheck_givens (s : Src) : (healthCheck s p).1.givens = p.givens := by
  unfold healthCheck
  repeat' split
  all_goals rfl

@[simp] theorem runCheck_givens (s : Src) : (runCheck s p).1.givens = p.givens := by
  unfold runCheck
  repeat' split
  all_goals simp

@[simp] theorem waitdeadTimeout_givens : (waitdeadTimeout p).1.givens = p.givens := by
  unfold waitdeadTimeout
  repeat' split
  all_goals simp

@[simp] theorem dwellExpiry_givens : (dwellExpiry p).1.givens = p.givens := by
  unfold dwellExpiry
  repeat' split
  all_goals rfl

@[simp] theorem waithealthyTimeout_givens : (waithealthyTimeout p).1.givens = p.givens := by
  unfold waithealthyTimeout
  repeat' split
  all_goals simp

@[simp] theorem sourceReading_givens (s : Src) (r : Reading) : (sourceReading s r p).1.givens = p.givens := by
  unfold sourceReading
  dsimp only
  repeat' split
  all_goals rfl

@[simp] theorem pickupExpiry_givens (s : Src) : (pickupExpiry s p).1.givens = p.givens := by
  unfold pickupExpiry
  dsimp only
  repeat' split
  all_goals rfl

@[simp] theorem sourceChanged_givens (s) : (sourceChanged s p).1.givens = p.givens := p.judgeReturns_givens

@[simp] theorem takeGenstat_givens (s : Src) (b : GenReport) : (takeGenstat s b p).1.givens = p.givens := by
  unfold takeGenstat
  split <;> rfl

@[simp] theorem genGone_givens (s) : (genGone s p).1.givens = p.givens := rfl
@[simp] theorem genChanged_givens (s replaced loadChanged) :
    (genChanged s replaced loadChanged p).1.givens = p.givens := rfl
@[simp] theorem takeForeign_givens : (takeForeign p).1.givens = p.givens := rfl
@[simp] theorem respondOperate_givens (m num) : (respondOperate m num p).1.givens = p.givens := rfl

@[simp] theorem frequencyExpiry_givens (x : Bus) : (frequencyExpiry x p).1.givens = p.givens := by
  unfold frequencyExpiry
  split <;> rfl

@[simp] theorem capacityExpiry_givens (x : Bus) : (capacityExpiry x p).1.givens = p.givens := by
  unfold capacityExpiry
  split <;> rfl

@[simp] theorem settleExpiry_givens (x : Bus) : (settleExpiry x p).1.givens = p.givens := by
  unfold settleExpiry
  dsimp only
  repeat' split
  all_goals rfl

@[simp] theorem judgeCandidate_givens (x : Bus) : (judgeCandidate x p).1.givens = p.givens := by
  unfold judgeCandidate restoreBlocked
  dsimp only
  repeat' split
  all_goals simp

@[simp] theorem staggerExpiry_givens (x : Bus) : (staggerExpiry x p).1.givens = p.givens := by
  unfold staggerExpiry
  dsimp only
  repeat' split
  all_goals simp

/-! ### Hand-offs that change station time, a point or a group -/

theorem Part.raiseFlag_wiring (f : Flag) : (p.raiseFlag f).wiring = p.wiring :=
  Part.wiring_of_givens (p.raiseFlag_givens f)

theorem timeLocked_wiring (target : Nat) (e : Int) : (timeLocked target e p).1.wiring = p.wiring := by
  unfold timeLocked
  dsimp only
  repeat' split
  · rfl
  · rfl
  · rfl
  · exact Part.raiseFlag_wiring _ _

theorem timeFrame_wiring (master : Nat) : (timeFrame master p).1.wiring = p.wiring := by
  unfold timeFrame
  dsimp only
  repeat' split
  · rfl
  · rfl
  · rfl
  · rfl
  · exact timeLocked_wiring ..
  · exact timeLocked_wiring ..

theorem masterGone_wiring : (masterGone p).1.wiring = p.wiring := by
  unfold masterGone
  dsimp only
  split <;> rfl

theorem holdoverExpiry_wiring : (holdoverExpiry p).1.wiring = p.wiring := by
  unfold holdoverExpiry
  dsimp only
  repeat' split
  · exact Part.raiseFlag_wiring _ _
  · rfl
  · rfl

/-- The clock's counts run the timers of a bus, and leave its feed state. -/
theorem Part.count_wiring : p.count.wiring = p.wiring := rfl

theorem Part.tick_wiring : p.tick.wiring = p.wiring := by
  simp only [Part.tick]
  split <;> split <;> rfl

theorem slewInstant_wiring : (slewInstant p).1.wiring = p.wiring := by
  simp only [slewInstant]
  repeat' split
  all_goals rfl

theorem takeReading_wiring (pt : Point) (b : RawReading) : (takeReading pt b p).1.wiring = p.wiring := by
  unfold takeReading
  dsimp only
  repeat' split
  all_goals rfl

theorem pointBlind_wiring (pt : Point) : (pointBlind pt p).1.wiring = p.wiring := by
  unfold pointBlind
  dsimp only
  repeat' split
  all_goals rfl

theorem shedMark_wiring (g : Grp) : (shedMark g p).1.wiring = p.wiring := rfl

/-! ### The requests -/

/-- A write leaves the wiring where it leaves it when it is applied (R189). -/
theorem writeWith_wiring {α : Type} {m : Sender} {table first count : Nat} {rows : Judged (List α)}
    {whole : List α → Option RefusedReason} {apply : List α → Res} (h : ∀ ks, (apply ks).1.wiring = p.wiring) :
    (writeWith m table first count p rows whole apply).1.wiring = p.wiring :=
  writeWith_keeps (fun q => q.wiring = p.wiring) rfl fun ks _ _ _ => h ks

theorem applyLive_wiring (row : Nat) (k : LiveRow) : (applyLive row k p).wiring = p.wiring := by
  cases k <;> simp only [applyLive]
  case point => split <;> rfl
  all_goals rfl

theorem applyLives_wiring (ks : List LiveRow) (row : Nat) : (applyLives ks row p).wiring = p.wiring := by
  induction ks generalizing row p with
  | nil => rfl
  | cons k ks ih => exact (ih ..).trans (applyLive_wiring ..)

theorem applyMap_wiring (ks : List UnitMapRow) (i : Nat) : (applyMap ks i p).1.wiring = p.wiring := by
  induction ks generalizing i p with
  | nil => rfl
  | cons k ks ih =>
    simp only [applyMap]
    split
    · exact ih ..
    · rfl

theorem clearTallies_wiring (first count : Nat) : (clearTallies first count p).wiring = p.wiring := by
  simp only [clearTallies]
  split <;> split <;> rfl

theorem requestOperate_wiring (m : Sender) (n : Nat) (a : Option Action) :
    (requestOperate m n a p).1.wiring = p.wiring := by
  unfold requestOperate
  split
  · rfl
  · split
    · rfl
    · rfl
    · split
      · next h => exact Part.wiring_of_givens (Part.insertEntry_givens h)
      · rfl

theorem requestResetBreaker_wiring (m : Sender) (n : Nat) : (requestResetBreaker m n p).1.wiring = p.wiring := by
  unfold requestResetBreaker
  split
  · rfl
  · split
    · exact Part.wiring_of_givens (p.setBreaker_givens rfl)
    · rfl

theorem requestClearLockout_wiring (m : Sender) (x : Option Bus) : (requestClearLockout m x p).1.wiring = p.wiring := by
  unfold requestClearLockout
  repeat' split
  · rfl
  · rfl
  · rfl
  · exact Part.wiring_of_givens ((Part.judgeReturn_givens _ _).trans (p.setBus_givens rfl))

/-- Every request but a topology write leaves the wiring as it is. -/
theorem carryOut_wiring (m : Sender) {r : Request} (h : ∀ first rows, r ≠ .writeTopology first rows) :
    (carryOut m r p).1.wiring = p.wiring := by
  cases r <;> simp only [carryOut]
  case writeTopology first rows => exact absurd rfl (h first rows)
  case writeRows => exact writeWith_wiring p fun _ => applyLives_wiring ..
  case writeUnitMap => exact writeWith_wiring p fun _ => applyMap_wiring ..
  case writeBreakerSettings =>
    exact writeWith_wiring p fun _ => Part.wiring_of_givens (foldl_givens _ (fun q b => q.judgeService_givens b) _)
  case clearPortTallies => exact writeWith_wiring p fun _ => clearTallies_wiring ..
  case writeTemplates => exact writeWith_wiring p fun _ => rfl
  case writeCandidateLists => exact writeWith_wiring p fun _ => rfl
  case writeSourceSettings => exact writeWith_wiring p fun _ => rfl
  case writeBusSettings => exact writeWith_wiring p fun _ => Part.wiring_of_givens (Part.judgeReturns_givens _)
  case writeGroupTable => exact writeWith_wiring p fun _ => rfl
  case ackConditions =>
    unfold requestAck
    split
    · rfl
    · exact Part.wiring_of_givens ((foldl_givens _ (fun q f => q.raiseFlag_givens f) _).trans
        (foldl_givens p (fun q f => q.clearFlag_givens f) _))
  case operate => exact requestOperate_wiring ..
  case clearLockout => exact requestClearLockout_wiring ..
  case resetBreaker => exact requestResetBreaker_wiring ..
  case unknown => rfl
  all_goals
    simp only [readRows, requestStart, requestHalt, requestTemplate, requestConfirm, requestSetChannel,
      requestClearFaults, requestServiceOut, requestServiceIn, requestRestoreGroup, requestIdentify, requestRestart]
    repeat' split
    all_goals rfl

end

/-- A hand-off that can change the wiring: a report, a unit that is gone, a request, and RESTART. -/
def Task.setsWiring : Task → Bool
  | .stateReport .. | .unitGone _ | .request .. | .restart => true
  | _ => false

theorem runTask_wiring {t : Task} (ht : t.setsWiring = false) (p : Part) : (runTask t p).1.wiring = p.wiring := by
  cases t <;> simp [Task.setsWiring] at ht <;> simp only [runTask]
  case reading => exact takeReading_wiring ..
  case timeFrame => exact timeFrame_wiring ..
  case holdoverExpiry => exact holdoverExpiry_wiring p
  case slewInstant => exact slewInstant_wiring p
  case pointBlind => exact pointBlind_wiring ..
  case arbiterIdle => exact arbiterIdle_wiring p
  case shedMark => rfl
  all_goals exact Part.wiring_of_givens (by simp)

end Sys2Proof.Machine
end

section
/-! PROOF. O10: every step keeps the feed states and fed domains those of the positions and the topology. -/

namespace Sys2Proof.Machine

/-- The sources that feed a bus are a matter of the topology and the positions (R66). -/
theorem Part.feedsBy_of_wiring {p q : Part} (h : q.wiring = p.wiring) (s : Src) (x : Bus) :
    q.feedsBy s x = p.feedsBy s x := by
  obtain ⟨htop, hrest⟩ := Prod.ext_iff.mp h
  have hpos (b : Breaker) : (q.breaker b).position = (p.breaker b).position := congrFun (Prod.ext_iff.mp hrest).1 b
  have htop' : q.topology = p.topology := htop
  simp only [Part.feedsBy, Part.used, Part.kind, Part.home, htop', hpos]

theorem Part.feedingAgrees_of_wiring {p q : Part} (h : q.wiring = p.wiring) (hp : p.feedingAgrees) :
    q.feedingAgrees := by
  have hf := Part.feedsBy_of_wiring h
  obtain ⟨_, hfeeds, hdomains⟩ : q.topology = p.topology ∧
      (q.buses.a.feed, q.buses.b.feed) = (p.buses.a.feed, p.buses.b.feed) ∧ q.fedDomains = p.fedDomains := by
    simp only [Part.wiring, Prod.mk.injEq] at h ⊢
    exact ⟨h.1, h.2.2.1, h.2.2.2⟩
  obtain ⟨ha, hb⟩ := Prod.mk.injEq .. ▸ hfeeds
  refine ⟨fun x => ?_, fun s => ?_⟩
  · have hx : (q.bus x).feed = (p.bus x).feed := by cases x <;> assumption
    simp only [hx, hp.1 x, Part.feedBy, hf]
  · have hs : q.fedDomain s = p.fedDomain s := congrArg (·.get s) hdomains
    simp only [hs, hp.2 s, Part.domainBy, hf]

/-- Recomputed feeding is that of the positions and the topology (R66). -/
theorem Part.recomputeFeeding_feedingAgrees (p : Part) : p.recomputeFeeding.feedingAgrees := by
  obtain ⟨v, hv, hq⟩ := p.recomputeFeeding_eq
  rw [hq]
  exact ⟨hv, fun _ => get_mapIndexed ..⟩

theorem Part.setPosition_feedingAgrees (p : Part) (b : Breaker) (pos : Position) :
    (p.setPosition b pos).feedingAgrees := Part.recomputeFeeding_feedingAgrees _

section

variable {p : Part} (hp : p.feedingAgrees)

include hp

theorem takeReport_feedingAgrees (b : Breaker) (r : BreakerReport) : (takeReport b r p).1.feedingAgrees := by
  have hreport : (p.setBreaker b ((p.breaker b).report r)).feedingAgrees :=
    Part.feedingAgrees_of_wiring (Part.wiring_of_givens (p.setBreaker_givens rfl)) hp
  have hcount {q : Part} (hq : q.feedingAgrees) : (countUncommanded b q).feedingAgrees :=
    Part.feedingAgrees_of_wiring (Part.wiring_of_givens (countUncommanded_givens q b)) hq
  unfold takeReport
  dsimp only
  split <;> split
  · exact hcount hreport
  · exact hcount (Part.setPosition_feedingAgrees ..)
  · exact hreport
  · exact Part.setPosition_feedingAgrees ..

theorem unitGone_feedingAgrees (role : Role) : (unitGone role p).1.feedingAgrees := by
  cases role <;> simp only [unitGone]
  case breaker b =>
    unfold breakerGone
    dsimp only
    split
    · exact Part.feedingAgrees_of_wiring (Part.wiring_of_givens (p.setBreaker_givens rfl)) hp
    · exact Part.setPosition_feedingAgrees ..
  case timeMaster => exact Part.feedingAgrees_of_wiring (masterGone_wiring p) hp
  all_goals exact hp

theorem takeRequest_feedingAgrees (m : Sender) (r : Request) : (takeRequest m r p).1.feedingAgrees := by
  by_cases h : ∀ first rows, r ≠ .writeTopology first rows
  · exact Part.feedingAgrees_of_wiring (carryOut_wiring _ m h) hp
  · push Not at h
    obtain ⟨first, rows, rfl⟩ := h
    exact writeWith_keeps Part.feedingAgrees hp fun _ _ _ _ => Part.recomputeFeeding_feedingAgrees _

end

/-- No source feeds a bus by the positions of RESTART, and the buses are UNFED (R196). -/
theorem restart_feedingAgrees (p : Part) : (restart p).1.feedingAgrees := by
  refine Part.feedingAgrees_of_wiring (Part.wiring_of_givens (foldl_givens _ (fun q f => q.setIfStanding_givens f) _)) ?_
  have hn (s : Src) (x : Bus) : p.restarted.feedsBy s x = false := by
    simp [Part.feedsBy, Part.restarted, Part.breaker, restartBreaker, BreakerRecord.init]
  refine ⟨fun x => ?_, fun s => ?_⟩
  · have hx : (p.restarted.bus x).feed = .unfed := by cases x <;> rfl
    simp [hx, Part.feedBy, hn]
  · have hs : p.restarted.fedDomain s = ⟨false, false⟩ := get_replicate ..
    simp [hs, Part.domainBy, hn]

theorem runTask_feedingAgrees (t : Task) (p : Part) (hp : p.feedingAgrees) : (runTask t p).1.feedingAgrees := by
  by_cases ht : t.setsWiring = false
  · exact Part.feedingAgrees_of_wiring (runTask_wiring ht p) hp
  · cases t <;> try exact absurd rfl ht
    case stateReport => exact takeReport_feedingAgrees hp ..
    case unitGone => exact unitGone_feedingAgrees hp _
    case request => exact takeRequest_feedingAgrees hp ..
    case restart => exact restart_feedingAgrees p

/-- Settles O10: a hand-off leaves the wiring as it is, or recomputes feeding. -/
theorem stepsKeepFeedingAgreed : Obligations.StepsKeepFeedingAgreed :=
  step_keeps Part.feedingAgrees runTask_feedingAgrees (fun straps _ => powerOn_feedingAgrees straps)
    (fun p hp => Part.feedingAgrees_of_wiring p.tick_wiring hp) fun _ _ hp => hp

end Sys2Proof.Machine
end

section
/-! PROOF. O47: CLEAR_LOCKOUT ends a lockout unless a BUSBAR trip stands. -/

namespace Sys2Proof.Machine

theorem mem_allBreakers (b : Breaker) : b ∈ allBreakers := by
  cases b <;> simp [allBreakers, allSrcs, allGrps]

section

variable {m : Sender} {p : Part} {x : Bus}

/-- Some breaker on a bus shows the trip cause BUSBAR (R70). -/
def Part.busbarTrip (p : Part) (x : Bus) : Bool := allBreakers.any (fun b => p.onBus b x && (p.breaker b).trip == .busbar)

theorem Part.busbarTrip_iff : p.busbarTrip x = true ↔ ∃ b, p.onBus b x = true ∧ (p.breaker b).trip = .busbar := by
  simp [Part.busbarTrip, mem_allBreakers]

theorem requestClearLockout_free (h : (p.bus x).lockout = false) :
    requestClearLockout m (some x) p = (p, [.respond m .done []]) := by
  simp [requestClearLockout, answered, h]

theorem requestClearLockout_barred (h : (p.bus x).lockout = true) (ht : p.busbarTrip x = true) :
    requestClearLockout m (some x) p = refused m .state p := by
  rw [Part.busbarTrip] at ht
  simp only [requestClearLockout, h, ht, Bool.not_true, Bool.false_eq_true, if_false, if_true]

theorem requestClearLockout_ends (h : (p.bus x).lockout = true) (ht : p.busbarTrip x = false) :
    requestClearLockout m (some x) p =
      ((p.setBus x { p.bus x with lockout := false }).judgeReturn x, [.respond m .done []]) := by
  rw [Part.busbarTrip] at ht
  simp only [requestClearLockout, h, ht, Bool.not_true, Bool.false_eq_true, if_false, answered, List.nil_append]

end

/-- Settles O47: the request comes to the first of its branches that applies, and its answer alone is left to do. -/
theorem clearLockoutEndsALockout : Obligations.ClearLockoutEndsALockout := by
  intro m s x hs hr p
  refine ⟨requestEvent_refused hs hr rfl, fun hfree => ?_, fun hlocked htrip => ?_, fun hlocked hnone => ?_⟩
  · exact requestEvent_answered hs hr (requestClearLockout_free (p := p) hfree)
  · exact requestEvent_refused hs hr (requestClearLockout_barred (p := p) hlocked (Part.busbarTrip_iff.mpr htrip))
  · have hbar : p.busbarTrip x = false := by
      rw [← Bool.not_eq_true, Part.busbarTrip_iff]
      rintro ⟨b, hon, htrip⟩
      exact hnone b hon htrip
    exact congrArg Host.Outcome.next
      (requestEvent_of_answer hs (Part.linkRests_of_ports (p := s.part) rfl hr) (requestClearLockout_ends hlocked hbar))

end Sys2Proof.Machine
end

section
/-! SUPPORT. Requests whose hand-offs settle, and what the hand-offs of a change of feeding, of a source or of a
generator record do while the part stands down. -/

namespace Sys2Proof.Machine

/-- A request whose hand-offs settle is answered behind them. -/
theorem requestEvent_of_settles {s : State} {m : Sender} {r : Request} {q : Part} {ts : List Task} {a : Answer} {b : Nat}
    (hs : s.serves) (hq : q.linkRests) (hc : carryOut m r s.part.countRequest = (q, ts ++ [.respond m a []]))
    (hts : Settles ts q b) (hb : b + 3 < Config.eventBound) :
    ∃ t, (.next (s.requestEvent m r) : Out) = .next t ∧ t.work = [] ∧ t.pending = s.pending ∧
      (q.answerWith m a []).sameButLoad t.part := by
  obtain ⟨u, n, hn, hd, hsame⟩ := drains_respond_of_settles hts hq m a []
  refine ⟨_, congrArg Host.Outcome.next (requestEvent_of_drains hs (q := u) (n := n) ?_ (by omega)), hs.1, rfl, hsame⟩
  rw [hc]
  exact hd

/-- Hand-offs settle in turn if each of them does wherever the load records stand. -/
theorem settles_each {ts : List Task} {p : Part} {b : Nat} (h : ∀ t ∈ ts, ∀ q, p.sameButLoad q → Settles [t] q b) :
    Settles ts p (b * ts.length) := by
  induction ts generalizing p with
  | nil => exact settles_nil p
  | cons t ts ih =>
    have ht : Settles [t] p b := h t (List.mem_cons_self ..) p p.sameButLoad_refl
    have hrest (q : Part) (hq : p.sameButLoad q) : Settles ts q (b * ts.length) :=
      ih fun u hu r hr => h u (List.mem_cons_of_mem _ hu) r (Part.sameButLoad_trans hq hr)
    exact settles_mono (settles_cons ht hrest) (by rw [List.length_cons, Nat.mul_succ]; omega)

section

variable {p : Part} (hd : p.stoodDown)
include hd

/-- A change of feeding is told: no guard watches, and the Load Manager judges (R61, R135). -/
theorem settles_feedTold : Settles [.feedTold] p 16 := by
  have ⟨_, _, _, _, hguard⟩ := hd
  have hg : runTask .guardFeed p = (p, []) := by simp [runTask, guardFeed, hguard]
  exact settles_step rfl p.sameButLoad_refl (settles_idle hg (settles_load hd))

/-- A generator record that is not a GENSTAT's reaches no entry and no step (R53, R124, R166). -/
theorem settles_genZeroed (i : Src) (told : Bool) : Settles [.genChanged i false told] p 16 := by
  have ⟨_, _, hplan, _⟩ := hd
  refine settles_step (ts := [.runCheck i] ++ if told then [.load] else []) rfl p.sameButLoad_refl
    (settles_idle (runCheck_of_no_plan hplan i) (b := 14) ?_)
  cases told
  · exact settles_mono (settles_nil p) (by omega)
  · exact settles_load hd

/-- A source that has not become FAILED has its return timers judged, which changes nothing where they are (R42, R73). -/
theorem settles_sourceChanged {i : Src} (hi : (p.source i).state ≠ .failed) (hj : p.judgeReturns = p) :
    Settles [.sourceChanged i] p 16 := by
  have ⟨_, _, hplan, _⟩ := hd
  have h := drains_sourceChanged hi (.inr hplan)
  rw [hj] at h
  exact ⟨p, 2, by omega, h, p.sameButLoad_refl⟩

end

/-! ### Return timers judged again (R73) -/

/-- A timer that follows a condition stays as it is while the condition does (R27). -/
theorem Timer.follow_follow (holds : Bool) (d : Nat) (t : Timer) : (t.follow holds d).follow holds d = t.follow holds d := by
  cases holds
  · rfl
  · cases t <;> rfl

theorem Part.judgeReturns_judgeReturns (p : Part) : p.judgeReturns.judgeReturns = p.judgeReturns := by
  have h (q : Part) : q.judgeReturns =
      { q with
        buses :=
          ⟨{ q.buses.a with
              returnTimer := q.buses.a.returnTimer.follow (q.returnHolds .a) (seconds (q.busSet .a).returnDelay) },
            { q.buses.b with
              returnTimer := q.buses.b.returnTimer.follow (q.returnHolds .b) (seconds (q.busSet .b).returnDelay) }⟩ } :=
    rfl
  rw [h p.judgeReturns]
  have ha : p.judgeReturns.buses.a.returnTimer.follow (p.judgeReturns.returnHolds .a)
      (seconds (p.judgeReturns.busSet .a).returnDelay) = p.judgeReturns.buses.a.returnTimer := Timer.follow_follow ..
  have hb : p.judgeReturns.buses.b.returnTimer.follow (p.judgeReturns.returnHolds .b)
      (seconds (p.judgeReturns.busSet .b).returnDelay) = p.judgeReturns.buses.b.returnTimer := Timer.follow_follow ..
  rw [ha, hb]

/-- Judged return timers stay judged while only the load records change. -/
theorem Part.judgeReturns_of_sameButLoad {p q : Part} (h : p.sameButLoad q) (hp : p.judgeReturns = p) :
    q.judgeReturns = q := by
  obtain ⟨hq, _⟩ := h
  have hj : q.judgeReturns =
      { p.judgeReturns with
        stages := q.stages
        channels := q.channels
        management := { p.management with conditions := q.management.conditions } } := by
    rw [hq]
    rfl
  rw [hj, hp, ← hq]

end Sys2Proof.Machine
end

section
/-! PROOF. O36: writes of source settings, bus settings, the group table and the topology. -/

namespace Sys2Proof.Machine

/-! ### The effects of a topology write on the sources (R43, R53, R65) -/

theorem rekindAll_eq (old : Topology) (ss : List Src) (p : Part) :
    ∃ v, (rekindAll old ss p).1 = { p with sources := v } := by
  induction ss generalizing p with
  | nil => exact ⟨_, rfl⟩
  | cons i ss ih => exact ih (rekindSource (old.kind.get i) (p.kind i) i p).1

/-- A source's record after its kind is written (R43, R53). -/
def SourceRecord.rekinded (q : SourceRecord) (old new : SourceKind) : SourceRecord :=
  let r := if new = .unused ∧ old ≠ .unused then q.leave .out else q
  if old == .generator && new != .generator then { r with gen := GenRecord.zero } else r

theorem SourceRecord.rekinded_state (q : SourceRecord) (old new : SourceKind) :
    (q.rekinded old new).state = if new = .unused ∧ old ≠ .unused then .out else q.state := by
  have hleave : (q.leave .out).state = .out := congrArg SourceRecord.state (q.leave_eq .out)
  unfold SourceRecord.rekinded
  by_cases hu : new = .unused ∧ old ≠ .unused
  · rw [if_pos hu, if_pos hu]
    split <;> exact hleave
  · rw [if_neg hu, if_neg hu]
    split <;> rfl

theorem rekindSource_fst (old new : SourceKind) (i : Src) (p : Part) :
    (rekindSource old new i p).1 = p.setSource i ((p.source i).rekinded old new) := rfl

theorem rekindSource_snd (old new : SourceKind) (i : Src) (p : Part) :
    (rekindSource old new i p).2 =
      (if ((p.source i).rekinded old new).state = (p.source i).state then [] else [.sourceChanged i]) ++
        if old == .generator && new != .generator then
          [.genChanged i false (capacityDiffers (p.source i).gen GenRecord.zero)]
        else [] := rfl

/-- A source whose kind is written is told of where its state changes, or where its generator record is zeroed. -/
theorem rekindSource_told {old new : SourceKind} {i : Src} {p : Part} {t : Task} (ht : t ∈ (rekindSource old new i p).2) :
    (t = .sourceChanged i ∧ ((p.source i).rekinded old new).state ≠ (p.source i).state) ∨
      ∃ told, t = .genChanged i false told := by
  rw [rekindSource_snd, List.mem_append] at ht
  rcases ht with ht | ht
  · split at ht
    · cases ht
    · next hne => exact .inl ⟨List.mem_singleton.mp ht, hne⟩
  · split at ht
    · exact .inr ⟨_, List.mem_singleton.mp ht⟩
    · cases ht

theorem rekindAll_cons (old : Topology) (i : Src) (ss : List Src) (p : Part) :
    rekindAll old (i :: ss) p =
      ((rekindAll old ss (p.setSource i ((p.source i).rekinded (old.kind.get i) (p.kind i)))).1,
        (rekindSource (old.kind.get i) (p.kind i) i p).2 ++
          (rekindAll old ss (p.setSource i ((p.source i).rekinded (old.kind.get i) (p.kind i)))).2) := rfl

/-- A source that is OUT stays OUT. -/
theorem rekindAll_out {old : Topology} {ss : List Src} {p : Part} {i : Src} (h : (p.source i).state = .out) :
    ((rekindAll old ss p).1.source i).state = .out := by
  induction ss generalizing p with
  | nil => exact h
  | cons j ss ih =>
    rw [rekindAll_cons]
    refine ih ?_
    rw [Part.source_setSource]
    split
    · next e =>
      subst e
      rw [SourceRecord.rekinded_state, h, ite_self]
    · exact h

/-- A source made UNUSED becomes OUT (R43). -/
theorem rekindAll_unused {old : Topology} {ss : List Src} {p : Part} {i : Src} (hi : i ∈ ss)
    (hnew : p.kind i = .unused) (hold : old.kind.get i ≠ .unused) :
    ((rekindAll old ss p).1.source i).state = .out := by
  induction ss generalizing p with
  | nil => cases hi
  | cons j ss ih =>
    rw [rekindAll_cons]
    by_cases hj : i = j
    · subst hj
      refine rekindAll_out ?_
      rw [Part.source_setSource, if_pos rfl, SourceRecord.rekinded_state, if_pos ⟨hnew, hold⟩]
    · exact ih ((List.mem_cons.mp hi).resolve_left hj) hnew

/-- A topology write hands off changed sources, which are OUT, and generator records that are zeroed. -/
theorem rekindAll_told {old : Topology} {ss : List Src} {p : Part} {t : Task} (ht : t ∈ (rekindAll old ss p).2) :
    (∃ i, t = .sourceChanged i ∧ ((rekindAll old ss p).1.source i).state = .out) ∨
      ∃ i told, t = .genChanged i false told := by
  induction ss generalizing p with
  | nil => cases ht
  | cons i ss ih =>
    rw [rekindAll_cons] at ht ⊢
    rcases List.mem_append.mp ht with ht | ht
    · rcases rekindSource_told ht with ⟨rfl, hne⟩ | ⟨told, rfl⟩
      · refine .inl ⟨i, rfl, rekindAll_out ?_⟩
        rw [Part.source_setSource, if_pos rfl]
        rw [SourceRecord.rekinded_state] at hne ⊢
        by_cases hu : p.kind i = .unused ∧ old.kind.get i ≠ .unused
        · rw [if_pos hu]
        · exact absurd (if_neg hu) hne
      · exact .inr ⟨i, told, rfl⟩
    · exact ih ht

/-- The part with a topology and its effects on the sources, and what they hand off, before feeding is recomputed. -/
def Part.rekinded (p : Part) (top : Topology) : Res := rekindAll p.topology allSrcs { p with topology := top }

theorem applyTopology_def (top : Topology) (p : Part) :
    applyTopology top p =
      ((p.rekinded top).1.recomputeFeeding,
        (p.rekinded top).2 ++ feedTasks (p.rekinded top).1 (p.rekinded top).1.recomputeFeeding ++ [.load]) := rfl

/-- A topology write changes the topology, the sources, the buses and the fed domains. -/
theorem applyTopology_eq (top : Topology) (p : Part) :
    ∃ v w d, (applyTopology top p).1 = { p with topology := top, sources := v, buses := w, fedDomains := d } := by
  obtain ⟨v, hv⟩ := rekindAll_eq p.topology allSrcs { p with topology := top }
  obtain ⟨w, _, hw⟩ := (p.rekinded top).1.recomputeFeeding_eq
  refine ⟨v, w, mapIndexed (fun i _ => (p.rekinded top).1.domainBy i) (p.rekinded top).1.fedDomains, ?_⟩
  rw [applyTopology_def, hw, Part.rekinded, hv]

theorem applyTopology_source (top : Topology) (p : Part) (i : Src) :
    (applyTopology top p).1.source i = (p.rekinded top).1.source i := rfl

/-- What a topology write hands off settles: nothing it tells of finds anything to do but the Load Manager. -/
theorem settles_applyTopology {p : Part} (hd : p.stoodDown) (top : Topology) :
    Settles (applyTopology top p).2 (applyTopology top p).1 (16 * (applyTopology top p).2.length) := by
  obtain ⟨v, w, d, hq⟩ := applyTopology_eq top p
  have hdown : (applyTopology top p).1.stoodDown := by
    rw [hq]
    exact hd
  have hj : (applyTopology top p).1.judgeReturns = (applyTopology top p).1 := Part.judgeReturns_judgeReturns _
  refine settles_each fun t ht q hsame => ?_
  have hdq := Part.stoodDown_of_sameButLoad hsame hdown
  rw [applyTopology_def, List.mem_append, List.mem_append] at ht
  rcases ht with (ht | ht) | ht
  · rcases rekindAll_told ht with ⟨i, rfl, hi⟩ | ⟨i, told, rfl⟩
    · have hout : (q.source i).state = .out := by
        rw [hsame.1]
        exact hi
      refine settles_sourceChanged hdq ?_ (Part.judgeReturns_of_sameButLoad hsame hj)
      rw [hout]
      nofun
    · exact settles_genZeroed hdq i told
  · rw [feedTasks] at ht
    split at ht
    · cases List.mem_singleton.mp ht
      exact settles_feedTold hdq
    · cases ht
  · cases List.mem_singleton.mp ht
    exact settles_mono (settles_load hdq) (by omega)

theorem feedTasks_length (p q : Part) : (feedTasks p q).length ≤ 1 := by
  unfold feedTasks
  split <;> simp

theorem rekindAll_length (old : Topology) (ss : List Src) (p : Part) :
    (rekindAll old ss p).2.length ≤ 2 * ss.length := by
  have hone (old new : SourceKind) (i : Src) (q : Part) : (rekindSource old new i q).2.length ≤ 2 := by
    rw [rekindSource_snd, List.length_append]
    split <;> split <;> simp
  induction ss generalizing p with
  | nil => simp [rekindAll]
  | cons i ss ih =>
    rw [rekindAll_cons]
    have h1 := hone (old.kind.get i) (p.kind i) i p
    have h2 := ih (p.setSource i ((p.source i).rekinded (old.kind.get i) (p.kind i)))
    simp only [List.length_append, List.length_cons]
    omega

/-- A topology write hands off at most two tasks for each source, the change of feeding, and the load. -/
theorem applyTopology_length (top : Topology) (p : Part) : (applyTopology top p).2.length ≤ 10 := by
  have hs : (p.rekinded top).2.length ≤ 2 * allSrcs.length := rekindAll_length ..
  have hfeed := feedTasks_length (p.rekinded top).1 (p.rekinded top).1.recomputeFeeding
  have h4 : allSrcs.length = 4 := by decide
  simp only [applyTopology_def, List.length_append, List.length_singleton]
  omega

/-! ### The requests -/

/-- A write whose rows pass and whose table as a whole does not (R189). -/
theorem writeWith_refused_whole {α : Type} {m : Sender} {table first count : Nat} {p : Part} {rows : Judged (List α)}
    {whole : List α → Option RefusedReason} {apply : List α → Res} {ks : List α} {refs : List FieldRef}
    {why : RefusedReason} (ht : p.writeRefusal table first count = none) (hj : rows = .ok (ks, refs))
    (hw : whole ks = some why) : writeWith m table first count p rows whole apply = refused m why p := by
  simp [writeWith, ht, hj, hw]

/-- A write of the topology whose rows pass comes to the test of the whole topology (R65, R189). -/
theorem writeTopology_judged {m : Sender} {first : Nat} {rows : List TopologyRow} {p : Part} {top : Topology}
    (ht : p.writeRefusal 2 first rows.length = none) (htop : topologyWithAll rows first p.topology = some top) :
    writeTopology m first rows p =
      if topologyRefused top then refused m .value p
      else ((applyTopology top p).1, (applyTopology top p).2 ++ [.respond m .done []]) := by
  unfold writeTopology
  rw [htop]
  simp only [writeWith, ht, List.any_cons, List.any_nil, Bool.or_false]
  cases topologyRefused top <;> rfl

theorem writeTopology_event {m : Sender} {s : State} {first : Nat} {rows : List TopologyRow} {top : Topology}
    (hs : s.serves) (hr : s.part.linkRests) (hd : s.part.stoodDown)
    (hc : carryOut m (.writeTopology first rows) s.part.countRequest =
      ((applyTopology top s.part.countRequest).1,
        (applyTopology top s.part.countRequest).2 ++ [.respond m .done []])) :
    ∃ t, (.next (s.requestEvent m (.writeTopology first rows)) : Out) = .next t ∧ t.work = [] ∧
      t.pending = s.pending ∧ t.part.topology = top ∧
      (∀ x, (t.part.bus x).feed = t.part.feedBy x) ∧
      (∀ i, top.kind.get i = .unused → s.part.kind i ≠ .unused → (t.part.source i).state = .out) ∧
      ((applyTopology top s.part.countRequest).1.answerWith m .done []).sameButLoad t.part := by
  obtain ⟨v, w, d, hq⟩ := applyTopology_eq top s.part.countRequest
  have hrest : (applyTopology top s.part.countRequest).1.linkRests := by
    rw [hq]
    exact hr
  have hlen := applyTopology_length top s.part.countRequest
  have hbound : 164 < Config.eventBound := by decide
  obtain ⟨t, he, hw, hp, hsame⟩ := requestEvent_of_settles hs hrest hc
    (settles_applyTopology (p := s.part.countRequest) hd top) (by omega)
  have hagrees : t.part.feedingAgrees := by
    refine Part.feedingAgrees_of_wiring (p := (applyTopology top s.part.countRequest).1) ?_
      (Part.recomputeFeeding_feedingAgrees _)
    rw [hsame.1]
    rfl
  refine ⟨t, he, hw, hp, ?_, hagrees.1, fun i hnew hold => ?_, hsame⟩
  · rw [hsame.1]
    show (applyTopology top s.part.countRequest).1.topology = top
    rw [hq]
  · rw [hsame.1]
    exact rekindAll_unused (List.mem_finRange i) hnew hold

/-- Settles O36: each write is applied or refused, and what it hands off settles. -/
theorem writesThatReachTheLoadManager : Obligations.WritesThatReachTheLoadManager := by
  intro m s first refs hs hr hd p a
  have hp (table count : Nat) : p.writeRefusal table first count = s.part.writeRefusal table first count := rfl
  have hbound : 164 < Config.eventBound := by decide
  refine ⟨fun rows ks ht hj => ?_, fun rows ks ht hj => ?_, fun rows ks ht hj => ⟨fun hw => ?_, fun hw => ?_⟩,
    fun rows top ht htop => ⟨fun hw => ?_, fun hw => ?_⟩⟩
  · refine requestEvent_of_settles hs (b := 14)
      (ts := if ratingDiffers p { p with sourceSettings := overlay (fun _ r => r) ks (first - 1) p.sourceSettings } then
        [.load] else [])
      (Part.linkRests_of_ports (p := s.part) rfl hr) ?_ ?_ (by omega)
    · rw [carryOut, writeSourceSettings, writeWith_applied ((hp _ _).trans ht) hj rfl]
    · split
      · exact settles_load hd
      · exact settles_mono (settles_nil _) (by omega)
  · refine requestEvent_of_settles hs (ts := [.load]) (b := 14) (Part.linkRests_of_ports (p := s.part) rfl hr) ?_
      (settles_load hd) (by omega)
    rw [carryOut, writeBusSettings, writeWith_applied ((hp _ _).trans ht) hj rfl]
  · refine requestEvent_refused hs hr ?_
    rw [carryOut, writeGroupTable]
    exact writeWith_refused_whole ((hp _ _).trans ht) hj hw
  · refine requestEvent_of_settles hs (ts := [.load]) (b := 14) (Part.linkRests_of_ports (p := s.part) rfl hr) ?_
      (settles_load hd) (by omega)
    rw [carryOut, writeGroupTable, writeWith_applied ((hp _ _).trans ht) hj hw]
  · refine requestEvent_refused hs hr ?_
    rw [carryOut, writeTopology_judged ((hp _ _).trans ht) htop, if_pos hw]
  · refine writeTopology_event hs hr hd ?_
    rw [carryOut, writeTopology_judged ((hp _ _).trans ht) htop, hw]
    rfl

end Sys2Proof.Machine
end

section
/-! PROOF. O32: no command that the Monitor blocks is made SENT. -/

namespace Sys2Proof.Machine

/-! ### What an operation on the ports, the breakers or the flags leaves of the schedule -/

section

variable (p : Part)

@[simp] theorem Part.raiseFlag_schedule (f : Flag) : (p.raiseFlag f).schedule = p.schedule := by
  obtain ⟨v, hv⟩ := p.raiseFlag_management f
  rw [hv]
  rfl

@[simp] theorem acceptCommand_schedule (f : CommandFrame) : (acceptCommand f p).schedule = p.schedule := by
  obtain ⟨l, hl, _⟩ := acceptCommand_eq f p
  rw [hl]

@[simp] theorem attemptSent_schedule (num : CmdNum) : (attemptSent num p).schedule = p.schedule := by
  obtain ⟨a, t, h⟩ := attemptSent_eq num p
  rw [h]

@[simp] theorem countOperation_schedule (target : Target) : (countOperation target p).schedule = p.schedule := by
  cases target with
  | breaker b =>
    obtain ⟨v, hv⟩ := countOperation_eq b p
    rw [hv]
    rfl
  | source s => rfl

@[simp] theorem offerCopy_schedule (f : CommandFrame) (k : Port) : (offerCopy f k p).schedule = p.schedule := by
  unfold offerCopy
  split
  · rw [placeCommand_eq]
    rfl
  · rfl

@[simp] theorem offerHeld_schedule (c : HeldCopy) : (offerHeld c p).schedule = p.schedule := by
  simp only [offerHeld]
  split <;> split <;> simp

@[simp] theorem countSchedule_entries (f : ScheduleTallies → ScheduleTallies) :
    (p.countSchedule f).schedule.entries = p.schedule.entries := rfl

@[simp] theorem putEntry_entries (e : Entry) :
    (p.putEntry e).schedule.entries = p.schedule.entries.map (fun e' => if e'.num = e.num then e else e') := rfl

@[simp] theorem dropEntry_entries (num : CmdNum) :
    (p.dropEntry num).schedule.entries = p.schedule.entries.filter (fun e => e.num != num) := rfl

end

/-! ### What a hand-over makes SENT -/

/-- The send check passes an entry: it is in time, and the Monitor does not block it (R162, steps 1 and 2). -/
def Part.sendable (p : Part) (e : Entry) : Prop :=
  (e.executeAt = 0 ∨ p.now + p.schedule.settings.minLead ≤ e.executeAt) ∧
    ∀ b, e.target = .breaker b → p.blockCause b e.action e.owner = none

/-- An entry is one that passes the send check, as it is once SENT: what names it and its command is the same. -/
def Part.sentFrom (p : Part) (h e : Entry) : Prop :=
  e.num = h.num ∧ e.executeAt = h.executeAt ∧ e.target = h.target ∧ e.action = h.action ∧ e.owner = h.owner ∧
    p.sendable h

/-- An entry as it is SENT now (R162, step 3; R164). -/
def Part.sentNow (p : Part) (h : Entry) : Entry :=
  { h with
    sent := true
    sendStamp := some p.now
    late := h.dueSince.getD p.now + p.schedule.settings.lateTol < p.now
    deadline := .start (p.deadlineFor h) }

/-- Sending an entry puts it back SENT in its place (R162, step 3). -/
theorem sendEntry_entries (h : Entry) (p : Part) :
    (sendEntry h p).1.schedule.entries = p.schedule.entries.map (fun x => if x.num = h.num then p.sentNow h else x) := by
  simp only [sendEntry, attemptSent_schedule, countOperation_schedule]
  split
  · rw [Part.raiseFlag_schedule, countSchedule_entries, putEntry_entries, acceptCommand_schedule]
    rfl
  · rw [countSchedule_entries, putEntry_entries, acceptCommand_schedule]
    rfl

theorem mem_sendEntry {p : Part} {h e : Entry} (hp : p.sendable h) (he : e ∈ (sendEntry h p).1.schedule.entries) :
    e ∈ p.schedule.entries ∨ p.sentFrom h e := by
  rw [sendEntry_entries] at he
  obtain ⟨x, hx, rfl⟩ := List.mem_map.mp he
  split
  · exact .inr ⟨rfl, rfl, rfl, rfl, rfl, hp⟩
  · exact .inl hx

/-- Judging the head of the send line takes it off, or sends it once it passes the send check (R162). -/
theorem mem_judgeHead {p : Part} {h e : Entry} (he : e ∈ (judgeHead h p).1.schedule.entries) :
    e ∈ p.schedule.entries ∨ p.sentFrom h e := by
  unfold judgeHead at he
  split at he
  · refine .inl (List.mem_of_mem_filter (p := fun e => e.num != h.num) ?_)
    simpa [Part.recordFault] using he
  · next hlead =>
    have htime : h.executeAt = 0 ∨ p.now + p.schedule.settings.minLead ≤ h.executeAt := by omega
    split at he
    · next s ht => exact mem_sendEntry ⟨htime, fun b hb => by rw [ht] at hb; cases hb⟩ he
    · next b ht =>
      split at he
      · refine .inl (List.mem_of_mem_filter (p := fun e => e.num != h.num) ?_)
        simpa [countInterlock] using he
      · next hblock =>
        refine mem_sendEntry ⟨htime, fun c hc => ?_⟩ he
        rw [ht] at hc
        cases hc
        exact hblock

/-- An entry that is SENT after what is due has been judged again was SENT before, as it is (R161). -/
theorem mem_refreshDue {p : Part} {e : Entry} (he : e ∈ p.refreshDue.schedule.entries) (hs : e.sent = true) :
    e ∈ p.schedule.entries := by
  obtain ⟨e0, h0, rfl⟩ := List.mem_map.mp he
  have hsent : e0.sent = true := by
    unfold Part.withDue at hs
    split at hs
    · exact hs
    · split at hs <;> exact hs
  rw [Part.withDue, if_pos hsent]
  exact h0

/-- An entry that is SENT after a hand-over was SENT before it, or passed the send check (R162, R163). -/
theorem mem_handOver {p : Part} {e : Entry} (he : e ∈ (handOver p).1.schedule.entries) (hs : e.sent = true) :
    e ∈ p.schedule.entries ∨ ∃ h, p.sentFrom h e := by
  have hhead {h : Entry} (he : e ∈ p.refreshDue.schedule.entries ∨ p.sentFrom h e) :
      e ∈ p.schedule.entries ∨ ∃ h, p.sentFrom h e :=
    he.imp (fun h => mem_refreshDue h hs) fun h => ⟨_, h⟩
  unfold handOver at he
  dsimp only at he
  split at he
  · exact hhead (mem_judgeHead (p := takeBack p.refreshDue) he)
  · split at he
    · exact .inl (mem_refreshDue he hs)
    · split at he
      · rw [offerHeld_schedule] at he
        exact .inl (mem_refreshDue he hs)
      · exact hhead (mem_judgeHead (p := p.refreshDue) he)
      · exact .inl (mem_refreshDue he hs)

/-! ### The two sides of a close (R75, R76) -/

theorem closeBlock_none {p : Part} {b : Breaker} (h : p.closeBlock b false = none) :
    ¬ (((p.sides b).1.any p.energised) = true ∧ ((p.sides b).2.any p.energised) = true) := by
  rintro ⟨h1, h2⟩
  simp [Part.closeBlock, h1, h2] at h

/-- A CLOSE of no attempt that the Monitor does not block passes the test of the two sides (R76, R77). -/
theorem closeBlock_of_blockCause {p : Part} {b : Breaker} {o : Owner} (h : p.blockCause b .close o = none)
    (ho : ∀ c t n, o ≠ .attempt c t n) : p.closeBlock b false = none := by
  have hnotGuard (h : (if (p.breaker b).failed then some BlockCause.failed else p.closeBlock b false) = none) :
      p.closeBlock b false = none := by
    split at h
    · cases h
    · exact h
  cases o with
  | guard serial => exact h
  | attempt c t n => exact absurd rfl (ho c t n)
  | step serial c t n g => exact hnotGuard h
  | management => exact hnotGuard h

/-- Settles O32: a newly SENT entry stood at the head of the send line and passed the send check. -/
theorem noBlockedCommandIsSent : Obligations.NoBlockedCommandIsSent := by
  intro p e _ he hs hnew
  rcases mem_handOver he hs with hold | ⟨h, _, hx, ht, ha, ho, htime, hblock⟩
  · exact absurd (hnew e hold rfl) (by simp [hs])
  · rw [hx, ht, ha, ho]
    refine ⟨htime, fun b hb => ⟨hblock b hb, fun hclose howner => ?_⟩⟩
    have hnone := hblock b hb
    rw [hclose] at hnone
    exact closeBlock_none (closeBlock_of_blockCause hnone howner)

end Sys2Proof.Machine
end

section
/-! PROOF. O38: START is refused or enters AUTO. -/

namespace Sys2Proof.Machine

/-! ### The request, and what an accepted START keeps -/

section

variable {m : Sender} {p : Part}

theorem requestStart_auto (h : p.arbiter.mode = .auto) : requestStart m p = refused m .mode p := if_pos h

theorem requestStart_failing (h : p.arbiter.mode = .halted) (hc : p.checkFailures ≠ []) :
    requestStart m p = (p, [.respond m (.refused .state) (p.checkFailures.map .checkItem)]) := by
  simp [requestStart, h, hc]

theorem requestStart_accepted (h : p.arbiter.mode = .halted) (hc : p.checkFailures = []) :
    requestStart m p =
      (beginAuto p, [.startBus .a, .startBus .b, .loadStart, .afterStart, .respond m .done []]) := by
  simp [requestStart, h, hc, answered]

end

/-- The part after the event of a request: what it hands off is worked through, within the bound. -/
theorem requestEvent_part {s : State} (hs : s.serves) (m : Sender) (r : Request) :
    (s.requestEvent m r).part =
      (drain (Config.eventBound - 1) (carryOut m r s.part.countRequest).2 (carryOut m r s.part.countRequest).1).1 := by
  obtain ⟨hw, hn⟩ := hs
  have hd := drain_succ (Config.eventBound - 1) (.request m r) [] s.part
  rw [List.append_nil] at hd
  simp only [State.requestEvent, State.stationEvent, hn, if_true, State.event, State.drained, hw, List.nil_append]
  exact congrArg Prod.fst hd

/-- Halt not being requested, what an accepted START can come to leaves the givens. -/
theorem drain_givens {ts : List Task} (h : ts.all Task.inner = true) {p : Part} (hp : p.arbiter.halt = false) (n : Nat) :
    (drain n ts p).1.givens = p.givens := by
  refine drain_keeps_of_closed (fun t => t.inner = true) (fun q => q.givens = p.givens)
    (fun _ q ht u hu => List.all_eq_true.mp (runTask_inner ht q).2 u hu) (fun _ q ht hq => ?_) n ts p
    (List.all_eq_true.mp h) rfl
  have hrun : q.arbiter.run = p.arbiter.run := congrArg (fun g => g.2.2.2) hq
  have hhalt : q.arbiter.halt = p.arbiter.halt := congrArg (fun r => r.2.2) hrun
  exact ((runTask_inner ht q).1 (hhalt.trans hp)).trans hq

/-! ### No take can follow while every channel's enable is OFF (R83, R85) -/

/-- Every channel's enable is OFF. -/
def Part.disabled (p : Part) : Prop := ∀ c, (p.channel c).enable = false

section

variable {p : Part}

theorem Part.disabled_of_sameButLoad {q : Part} (h : p.sameButLoad q) (hp : p.disabled) : q.disabled := by
  intro c
  rw [h.2.2.1 c]
  exact hp c

theorem Part.disabled_raised (hp : p.disabled) (c : Channel) : (p.raised c).disabled := by
  intro d
  rw [Part.raised, Part.channel_setChannel]
  split
  · exact hp c
  · exact hp d

/-- A raise of a channel whose enable is OFF is only tallied (R85). -/
theorem raise_disabled (hp : p.disabled) (c : Channel) : runTask (.raise c) p = (p.raised c, []) := by
  simp [runTask, raise, Part.raised, hp c]

theorem Part.highest_disabled (hp : p.disabled) : p.highest = none := by
  rw [Part.highest, List.find?_eq_none]
  intro c _
  simp [Part.eligible, hp c]

theorem judgeTake_disabled (hp : p.disabled) : runTask .judgeTake p = (p, []) := by
  simp [runTask, judgeTake, Part.takeable, p.highest_disabled hp]

theorem judgePreempt_disabled (hp : p.disabled) : runTask .judgePreempt p = (p, []) := by
  simp [runTask, judgePreempt, p.highest_disabled hp]

/-- The shed stage of a bus is left or judged, and then perhaps raised (R178, R179). -/
theorem shedStage_cases (x : Bus) (p : Part) :
    ∃ q, p.sameButLoad q ∧
      (shedStage x p = (q, []) ∨ shedStage x p = (q, [.raise (.shed x), .shedRaised x])) := by
  unfold shedStage
  dsimp only
  split
  · exact ⟨p, p.sameButLoad_refl, .inl rfl⟩
  · split
    · exact ⟨_, Part.sameButLoad_trans (p.sameButLoad_setStage x _) (Part.sameButLoad_setStage _ x _), .inr rfl⟩
    · exact ⟨_, p.sameButLoad_setStage x _, .inl rfl⟩

theorem settles_shedStage_disabled (hp : p.disabled) (x : Bus) : Settles [.shedStage x] p 3 := by
  obtain ⟨q, hq, h | h⟩ := shedStage_cases x p
  · exact settles_mono (settles_one h hq) (by omega)
  · have hraise : Settles [.raise (.shed x)] q 1 :=
      settles_one (raise_disabled (Part.disabled_of_sameButLoad hq hp) _) (Part.sameButLoad_raised _ rfl)
    exact settles_step h hq (settles_cons hraise fun q _ => settles_shedRaised q x)

/-- An event that reaches the Load Manager while every channel's enable is OFF (R173). -/
theorem settles_load_disabled (hp : p.disabled) : Settles [.load] p 10 := by
  refine settles_step (ts := [.shedStage .a, .shedStage .b, .capacityShort, .restoreStage .a, .restoreStage .b])
    rfl p.sameButLoad_refl ?_
  refine settles_cons (b := 3) (c := 6) (settles_shedStage_disabled hp .a) fun q hq => ?_
  refine settles_cons (b := 3) (c := 3) (settles_shedStage_disabled (Part.disabled_of_sameButLoad hq hp) .b) fun q _ => ?_
  refine settles_cons (b := 1) (c := 2) (settles_capacityShort q) fun q _ => ?_
  exact settles_cons (b := 1) (c := 1) (settles_restoreStage q .a) fun q _ => settles_restoreStage q .b

theorem settles_loadStart_disabled (hp : p.disabled) : Settles [.loadStart] p 11 := by
  have h := Part.sameButLoad_trans
    (p.sameButLoad_setStage .a (if (p.stage .a).restore = .raised then (p.stage .a).endRaise.stopRestore
      else (p.stage .a).endRaise))
    (Part.sameButLoad_setStage _ .b (if (p.stage .b).restore = .raised then (p.stage .b).endRaise.stopRestore
      else (p.stage .b).endRaise))
  exact settles_step rfl h (settles_load_disabled hp)

end

/-! ### A bus judged at START (R74) -/

/-- A bus has a supply, and is neither in LOCKOUT nor LIVE and fed (R74). -/
def Part.unsupplied (p : Part) (x : Bus) : Bool :=
  !(p.bus x).lockout && p.hasSupply x && ((p.bus x).live != .live || (p.bus x).feed == .unfed)

theorem Part.unsupplied_iff (p : Part) (x : Bus) :
    p.unsupplied x = true ↔
      (p.bus x).lockout = false ∧ p.hasSupply x = true ∧ ((p.bus x).live ≠ .live ∨ (p.bus x).feed = .unfed) := by
  simp [Part.unsupplied, and_assoc]

/-- The return timer of a bus starts again from zero, or stops (R74). -/
def Part.returnAgain (p : Part) (x : Bus) : Part := (p.setBus x { p.bus x with returnTimer := .stopped }).judgeReturn x

/-- A bus once it is judged at START: its return timer starts again, and LOST is tallied (R74, R85). -/
def Part.busStarted (p : Part) (x : Bus) : Part :=
  if p.unsupplied x then (p.returnAgain x).raised (.lost x) else p.returnAgain x

theorem startBus_eq (x : Bus) (p : Part) :
    startBus x p = (p.returnAgain x, if p.unsupplied x then [.raise (.lost x)] else []) := rfl

theorem Part.disabled_busStarted {p : Part} (hp : p.disabled) (x : Bus) : (p.busStarted x).disabled := by
  have h : (p.returnAgain x).disabled := hp
  unfold Part.busStarted
  split
  · exact Part.disabled_raised h _
  · exact h

theorem Part.busStarted_linkRests {p : Part} (hp : p.linkRests) (x : Bus) : (p.busStarted x).linkRests := by
  unfold Part.busStarted
  split <;> exact hp

theorem drains_startBus {p : Part} (hp : p.disabled) (x : Bus) :
    ∃ n, n ≤ 2 ∧ Drains [.startBus x] p (p.busStarted x) n := by
  have hagain : (p.returnAgain x).disabled := hp
  have hrun : runTask (.startBus x) p = (p.returnAgain x, if p.unsupplied x then [.raise (.lost x)] else []) :=
    startBus_eq x p
  unfold Part.busStarted
  split
  · next h =>
    rw [if_pos h] at hrun
    refine ⟨2, le_rfl, drains_cons ?_⟩
    rw [hrun]
    exact drains_single (raise_disabled hagain _) (drains_nil _)
  · next h =>
    rw [if_neg h] at hrun
    exact ⟨1, by omega, drains_single hrun (drains_nil _)⟩

/-! ### The end of an accepted START (R80) -/

/-- The part no longer carries out an accepted START. -/
def Part.startEnded (p : Part) : Part := { p with arbiter := { p.arbiter with inStart := false } }

theorem Part.sameButLoad_startEnded {p q : Part} (h : p.sameButLoad q) : p.startEnded.sameButLoad q.startEnded := by
  obtain ⟨hq, hchannels, hraised, hflags⟩ := h
  refine ⟨?_, hchannels, hraised, hflags⟩
  rw [hq]
  rfl

theorem Part.sameButLoad_answerWith {p q : Part} (h : p.sameButLoad q) (m : Sender) (a : Answer) (rows : List RowData) :
    (p.answerWith m a rows).sameButLoad (q.answerWith m a rows) := by
  obtain ⟨hq, hchannels, hraised, hflags⟩ := h
  refine ⟨?_, hchannels, hraised, hflags⟩
  rw [hq]
  rfl

theorem drains_afterStart {p : Part} (hp : p.disabled) : Drains [.afterStart] p p.startEnded 3 := by
  have h : p.startEnded.disabled := hp
  exact drains_cons (drains_single (judgeTake_disabled h) (drains_single (judgePreempt_disabled h) (drains_nil _)))

/-- With every channel's enable OFF, an accepted START judges both buses and then the load, and is answered. -/
theorem drains_start {p : Part} (hp : p.disabled) (hr : p.linkRests) (m : Sender) :
    ∃ q n, n ≤ 21 ∧
      Drains [.startBus .a, .startBus .b, .loadStart, .afterStart, .respond m .done []] p q n ∧
      (((p.busStarted .a).busStarted .b).startEnded.answerWith m .done []).sameButLoad q := by
  obtain ⟨na, hna, hda⟩ := drains_startBus hp .a
  have hpa := Part.disabled_busStarted hp .a
  obtain ⟨nb, hnb, hdb⟩ := drains_startBus hpa .b
  obtain ⟨q, nl, hnl, hdl, hsame⟩ := settles_loadStart_disabled (Part.disabled_busStarted hpa .b)
  have hq := Part.disabled_of_sameButLoad hsame (Part.disabled_busStarted hpa .b)
  have hrest : q.startEnded.linkRests := by
    refine Part.linkRests_of_ports (p := (p.busStarted .a).busStarted .b) ?_
      (Part.busStarted_linkRests (Part.busStarted_linkRests hr .a) .b)
    rw [hsame.1]
    rfl
  refine ⟨q.startEnded.answerWith m .done [], na + (nb + (nl + (3 + 3))), by omega, ?_,
    Part.sameButLoad_answerWith (Part.sameButLoad_startEnded hsame) ..⟩
  exact drains_append hda (drains_append hdb (drains_append hdl
    (drains_append (drains_afterStart hq) (drains_respond hrest m .done []))))

/-- LOST is tallied for a bus on a condition that is settled beforehand. -/
def Part.lostIf (p : Part) (c : Bool) (x : Bus) : Part := if c then p.raised (.lost x) else p

section

variable (p : Part) (c : Channel) (x : Bus)

theorem Part.returnAgain_raised : (p.raised c).returnAgain x = (p.returnAgain x).raised c := rfl
theorem Part.startEnded_raised : (p.raised c).startEnded = p.startEnded.raised c := rfl
theorem Part.startEnded_returnAgain : (p.returnAgain x).startEnded = p.startEnded.returnAgain x := rfl

end

/-- The order in which START judges the return timers and raises LOST makes no difference to the part (R74). -/
theorem Part.busStarted_both (p : Part) :
    ((p.busStarted .a).busStarted .b).startEnded =
      (((p.startEnded.returnAgain .a).returnAgain .b).lostIf (p.unsupplied .a) .a).lostIf (p.unsupplied .b) .b := by
  have hb : (p.busStarted .a).unsupplied .b = p.unsupplied .b := by
    unfold Part.busStarted
    split <;> rfl
  rw [Part.busStarted, hb, Part.busStarted]
  cases p.unsupplied .a <;> cases p.unsupplied .b <;>
    simp [Part.lostIf, Part.returnAgain_raised, Part.startEnded_raised, Part.startEnded_returnAgain]

/-- Settles O38: an accepted START leaves the tables and what is given, and with nothing to take its effects are those
of its own hand-offs. -/
theorem startEntersAuto : Obligations.StartEntersAuto := by
  intro m s hs
  refine ⟨fun hauto hr => requestEvent_refused hs hr (requestStart_auto hauto), fun hmode hc hr => ?_,
    fun hmode hc => ?_, fun hc hr hd hdis => ?_⟩
  · exact congrArg Host.Outcome.next
      (requestEvent_of_answer hs (Part.countRequest_rests hr) (requestStart_failing (p := s.part.countRequest) hmode hc))
  · have hcarry : carryOut m .start s.part.countRequest = _ :=
      requestStart_accepted (p := s.part.countRequest) hmode hc
    have hpart := requestEvent_part hs m .start
    rw [hcarry] at hpart
    have hbase := (drain_base (p := beginAuto s.part.countRequest)
      (ts := [.startBus .a, .startBus .b, .loadStart, .afterStart, .respond m .done []]) rfl (Config.eventBound - 1))
    have hgivens := drain_givens (p := beginAuto s.part.countRequest)
      (ts := [.startBus .a, .startBus .b, .loadStart, .afterStart, .respond m .done []]) rfl rfl (Config.eventBound - 1)
    rw [← hpart] at hbase hgivens
    have htables := Part.tables_of_base hbase
    simp only [Part.givens, Part.wiring, ArbiterRecord.run, Prod.mk.injEq] at hgivens
    obtain ⟨⟨htop, _⟩, ⟨hpoints, htime, hgroups⟩, haddr, hmode', hrun, hhalt⟩ := hgivens
    exact ⟨_, rfl, hmode', hrun, hhalt, congrArg Tables.unitMap htables, htop, congrArg Tables.templates htables,
      congrArg Tables.candidates htables, haddr, htime, hpoints, congrArg Tables.sourceSettings htables,
      congrArg Tables.breakerSettings htables, congrArg Tables.syncSettings htables,
      congrArg Tables.schedule htables, congrArg Tables.busSettings htables, hgroups,
      congrArg Tables.statusPeriod htables⟩
  · intro p lose again
    have ⟨hmode, _⟩ := hd
    have hdisabled : (beginAuto s.part.countRequest).disabled := fun c => by
      simpa [beginAuto, Part.channel, Part.countRequest] using hdis c
    obtain ⟨q, n, hn, hdrains, hsame⟩ := drains_start hdisabled (p := beginAuto s.part.countRequest) hr m
    have hbound : 21 < Config.eventBound := by decide
    refine ⟨_, congrArg Host.Outcome.next (requestEvent_of_drains hs (q := q) (n := n) ?_ (by omega)), hs.1, rfl, ?_⟩
    · rw [carryOut, requestStart_accepted (p := s.part.countRequest) hmode hc]
      exact hdrains
    · have hlose (x : Bus) (r : Part) : lose x r = r.lostIf ((beginAuto s.part.countRequest).unsupplied x) x :=
        if_congr (Part.unsupplied_iff _ x).symm rfl rfl
      rw [Part.busStarted_both] at hsame
      rw [hlose, hlose]
      exact hsame

end Sys2Proof.Machine
end

section
/-! SUPPORT. Hand-offs that bring a part to another wherever the load records stand, and the operations that a change of
the load records does not touch. -/

namespace Sys2Proof.Machine

/-- Wherever the load records of `p` stand, the hand-offs of `ts` come to an end, within a bound, in a part that differs
from `q` in the load records only. -/
def Brings (p : Part) (ts : List Task) (q : Part) (bound : Nat) : Prop :=
  ∀ r, p.sameButLoad r → ∃ u n, n ≤ bound ∧ Drains ts r u n ∧ q.sameButLoad u

theorem brings_nil (p : Part) : Brings p [] p 0 := fun r hr => ⟨r, 0, le_rfl, drains_nil r, hr⟩

theorem brings_mono {p q : Part} {ts : List Task} {b c : Nat} (h : Brings p ts q b) (hbc : b ≤ c) : Brings p ts q c := by
  intro r hr
  obtain ⟨u, n, hn, hd, hu⟩ := h r hr
  exact ⟨u, n, by omega, hd, hu⟩

theorem brings_append {p q u : Part} {ts us : List Task} {b c : Nat} (h : Brings p ts q b) (h' : Brings q us u c) :
    Brings p (ts ++ us) u (b + c) := by
  intro r hr
  obtain ⟨v, n, hn, hd, hv⟩ := h r hr
  obtain ⟨w, m, hm, hd', hw⟩ := h' v hv
  exact ⟨w, n + m, by omega, drains_append hd hd', hw⟩

/-- Hand-offs that settle wherever the load records stand. -/
theorem brings_of_settles {p : Part} {ts : List Task} {b : Nat} (h : ∀ r, p.sameButLoad r → Settles ts r b) :
    Brings p ts p b := by
  intro r hr
  obtain ⟨u, n, hn, hd, hu⟩ := h r hr
  exact ⟨u, n, hn, hd, Part.sameButLoad_trans hr hu⟩

/-- Hand-offs to the buses that a test picks, each of which brings a part that has some property to another. -/
theorem brings_filter {I : Part → Prop} {f : Bus → Task} {F : Part → Bus → Part} {b : Nat}
    (hI : ∀ p x, I p → I (F p x)) (h : ∀ p x, I p → Brings p [f x] (F p x) b) (c : Bus → Bool) (xs : List Bus) {p : Part}
    (hp : I p) :
    Brings p ((xs.filter c).map f) (xs.foldl (fun p x => if c x then F p x else p) p) (b * xs.length) := by
  induction xs generalizing p with
  | nil => exact brings_nil p
  | cons x xs ih =>
    rw [List.length_cons, Nat.mul_succ, List.foldl_cons, List.filter_cons]
    split
    · exact brings_mono (brings_append (h p x hp) (ih (hI p x hp))) (by omega)
    · exact brings_mono (ih hp) (by omega)

theorem foldl_if_keeps {I : Part → Prop} {F : Part → Bus → Part} (hI : ∀ p x, I p → I (F p x)) (c : Bus → Bool)
    (xs : List Bus) {p : Part} (hp : I p) : I (xs.foldl (fun p x => if c x then F p x else p) p) := by
  induction xs generalizing p with
  | nil => exact hp
  | cons x xs ih =>
    have hx : I (if c x then F p x else p) := by
      split
      · exact hI p x hp
      · exact hp
    exact ih hx

/-! ### Operations that the load records do not enter -/

section

variable {p q : Part} (h : p.sameButLoad q)
include h

theorem Part.sameButLoad_setBus (x : Bus) (v : BusRecord) : (p.setBus x v).sameButLoad (q.setBus x v) := by
  obtain ⟨hq, hrest⟩ := h
  refine ⟨?_, hrest⟩
  rw [hq]
  rfl

theorem Part.sameButLoad_recordFault (f : FaultRecord) : (p.recordFault f).sameButLoad (q.recordFault f) := by
  obtain ⟨hq, hrest⟩ := h
  refine ⟨?_, hrest⟩
  rw [hq]
  rfl

theorem Part.sameButLoad_raiseFlag_both {f : Flag} (hf : loadFlag f = false) :
    (p.raiseFlag f).sameButLoad (q.raiseFlag f) := by
  have hcond : q.condition f = p.condition f := h.2.2.2 f hf
  have hnow : q.now = p.now := by
    rw [h.1]
    rfl
  simp only [Part.raiseFlag, hcond, hnow]
  split
  · exact h
  · obtain ⟨hq, hchannels, hraised, hflags⟩ := h
    refine ⟨?_, hchannels, hraised, fun g hg => ?_⟩
    · rw [hq]
      rfl
    · rw [Part.condition_setCondition, Part.condition_setCondition]
      split
      · rfl
      · exact hflags g hg

theorem Part.sameButLoad_raised_both {c : Channel} (hc : loadChannel c = false) :
    (p.raised c).sameButLoad (q.raised c) := by
  have hsame : q.channel c = p.channel c := h.2.1 c hc
  have hother (d : Channel) : (q.raised c).channel d = (p.raised c).channel d ∨
      ((q.raised c).channel d = q.channel d ∧ (p.raised c).channel d = p.channel d) := by
    simp only [Part.raised, Part.channel_setChannel, hsame]
    split
    · exact .inl rfl
    · exact .inr ⟨rfl, rfl⟩
  obtain ⟨hq, hchannels, hraised, hflags⟩ := h
  refine ⟨?_, fun d hd => ?_, fun d => ?_, hflags⟩
  · rw [hq]
    rfl
  · rcases hother d with he | ⟨hqd, hpd⟩
    · exact he
    · rw [hqd, hpd]
      exact hchannels d hd
  · rcases hother d with he | ⟨hqd, hpd⟩
    · rw [he]
      exact ChannelRecord.raisedFrom_refl _
    · rw [hqd, hpd]
      exact hraised d

end

end Sys2Proof.Machine
end

section
/-! SUPPORT. A position that is taken, and an uncommanded opening that is tallied (R58, R60, R66). -/

namespace Sys2Proof.Machine

theorem Part.setBreaker_setBreaker (p : Part) (b : Breaker) (v w : BreakerRecord) :
    (p.setBreaker b v).setBreaker b w = p.setBreaker b w := by
  simp only [Part.setBreaker, Vector.set_set]

/-- The part with a position taken, before feeding is recomputed (R58, R170, R171). -/
def Part.moved (p : Part) (b : Breaker) (pos : Position) : Part :=
  let q := p.setBreaker b { p.breaker b with position := pos }
  match b with
  | .feeder g => q.setGroup g (p.groupAt g pos)
  | _ => q

theorem Part.setPosition_eq (p : Part) (b : Breaker) (pos : Position) :
    p.setPosition b pos = (p.moved b pos).recomputeFeeding := by
  cases b <;> rfl

theorem Part.moved_breakers (p : Part) (b : Breaker) (pos : Position) :
    (p.moved b pos).breakers = (p.setBreaker b { p.breaker b with position := pos }).breakers := by
  cases b <;> rfl

theorem Part.setPosition_breakers (p : Part) (b : Breaker) (pos : Position) :
    (p.setPosition b pos).breakers = (p.setBreaker b { p.breaker b with position := pos }).breakers := by
  cases b <;> rfl

theorem Part.setPosition_breaker (p : Part) (b c : Breaker) (pos : Position) :
    (p.setPosition b pos).breaker c = if c = b then { p.breaker b with position := pos } else p.breaker c := by
  rw [Part.breaker, p.setPosition_breakers]
  exact Part.breaker_setBreaker ..

/-- A position that is taken changes the breaker, its group's row, the bus records and the fed domains. -/
theorem Part.setPosition_only (p : Part) (b : Breaker) (pos : Position) :
    ∃ v w g d, p.setPosition b pos = { p with breakers := v, buses := w, groups := g, fedDomains := d } := by
  obtain ⟨w, _, hw⟩ := (p.moved b pos).recomputeFeeding_eq
  rw [p.setPosition_eq, hw]
  cases b <;> exact ⟨_, _, _, _, rfl⟩

/-- A breaker's record whose position stays has no part in feeding (R66). -/
theorem Part.recomputeFeeding_setBreaker (p : Part) {b : Breaker} {v : BreakerRecord}
    (h : v.position = (p.breaker b).position) :
    (p.setBreaker b v).recomputeFeeding = p.recomputeFeeding.setBreaker b v := by
  have hf := Part.feedsBy_of_wiring (Part.wiring_of_givens (p.setBreaker_givens h))
  have hfeed (x : Bus) : (p.setBreaker b v).feedBy x = p.feedBy x := by simp only [Part.feedBy, hf]
  have hdomain (s : Src) : (p.setBreaker b v).domainBy s = p.domainBy s := by simp only [Part.domainBy, hf]
  simp only [Part.recomputeFeeding, hfeed, hdomain]
  rfl

theorem Part.groupAt_setBreaker (p : Part) {g : Grp} {v : BreakerRecord}
    (h : v.position = (p.breaker (.feeder g)).position) (pos : Position) :
    (p.setBreaker (.feeder g) v).groupAt g pos = p.groupAt g pos := by
  have hb : ((p.setBreaker (.feeder g) v).breaker (.feeder g)).position = (p.breaker (.feeder g)).position := by
    rw [Part.breaker_setBreaker, if_pos rfl, h]
  simp only [Part.groupAt, Part.feederCounts, Part.feederClosed, hb]
  rfl

/-- What else is written in a breaker's record is the same before its position is taken and behind it. -/
theorem Part.setPosition_setBreaker (p : Part) {b : Breaker} {v : BreakerRecord}
    (h : v.position = (p.breaker b).position) (pos : Position) :
    (p.setBreaker b v).setPosition b pos = (p.setPosition b pos).setBreaker b { v with position := pos } := by
  have hself : (p.setBreaker b v).breaker b = v := by rw [Part.breaker_setBreaker, if_pos rfl]
  have hmoved : (p.setBreaker b v).moved b pos = (p.moved b pos).setBreaker b { v with position := pos } := by
    cases b with
    | feeder g =>
      have hswap (q : Part) (w : BreakerRecord) (r : GroupRow) :
          (q.setGroup g r).setBreaker (.feeder g) w = (q.setBreaker (.feeder g) w).setGroup g r := rfl
      simp only [Part.moved, hself, p.groupAt_setBreaker h, hswap, Part.setBreaker_setBreaker]
    | incomer i => simp only [Part.moved, hself, Part.setBreaker_setBreaker]
    | coupler => simp only [Part.moved, hself, Part.setBreaker_setBreaker]
  have hpos : ((p.moved b pos).breaker b).position = pos := by
    have hb : (p.moved b pos).breaker b = (p.setBreaker b { p.breaker b with position := pos }).breaker b :=
      congrArg (·.get b.idx) (p.moved_breakers b pos)
    rw [hb, Part.breaker_setBreaker, if_pos rfl]
  rw [Part.setPosition_eq, hmoved, Part.recomputeFeeding_setBreaker _ (v := { v with position := pos }) hpos.symm,
    ← Part.setPosition_eq]

end Sys2Proof.Machine
end

section
/-! PROOF. O31: a STATE report is copied, and its position filtered. -/

namespace Sys2Proof.Machine

/-! ### A report to a part whose schedule is empty (R56, R58, R60) -/

/-- Two reports in a row show a position that is not the breaker's (R58, case 3). -/
abbrev Part.takes (p : Part) (b : Breaker) (r : BreakerReport) : Prop :=
  positionOf r.position ≠ (p.breaker b).position ∧ (p.breaker b).lastReported = some r.position

/-- The position so taken is an uncommanded opening (R60). -/
abbrev Part.opens (p : Part) (b : Breaker) (r : BreakerReport) : Prop :=
  p.takes b r ∧ r.position = .opn ∧
    ((p.breaker b).position = .closed ∨ (p.breaker b).position = .travel ∨ (p.breaker b).position = .faulty)

/-- An incomer or the coupler is so taken to be on its way out (R71). -/
abbrev Part.goesOut (p : Part) (b : Breaker) (r : BreakerReport) : Prop :=
  p.takes b r ∧ feedsBus b = true ∧ (p.breaker b).position = .closed ∧ (r.position = .travel ∨ r.position = .faulty)

/-- The breaker's record with the report, before its position is taken (R56, R60). -/
def Part.reportRecord (p : Part) (b : Breaker) (r : BreakerReport) : BreakerRecord :=
  { (p.breaker b).report r with
    uncommanded := if p.opens b r then tick16 (p.breaker b).uncommanded else (p.breaker b).uncommanded }

/-- The part with the report and the position taken (R56, R58). -/
def Part.reported (p : Part) (b : Breaker) (r : BreakerReport) : Part :=
  if p.takes b r then (p.setBreaker b (p.reportRecord b r)).setPosition b (positionOf r.position)
  else p.setBreaker b (p.reportRecord b r)

/-- The source of an incomer. -/
def incomerSource : Breaker → Option Src
  | .incomer i => some i
  | _ => none

/-- The part with the report and the fault of an uncommanded opening (R60). -/
def Part.noted (p : Part) (b : Breaker) (r : BreakerReport) : Part :=
  if p.opens b r ∧ feedsBus b = true then
    (p.reported b r).recordFault { blankFault .uncommandedOpen with breaker := some b, source := incomerSource b }
  else p.reported b r

/-- The buses that the report tells are lost (R71). -/
def Part.losesBus (p : Part) (b : Breaker) (r : BreakerReport) (x : Bus) : Bool :=
  decide (p.opens b r ∨ p.goesOut b r) &&
    ((match (p.bus x).feed with
      | .fed _ => true
      | _ => false) && ((p.noted b r).bus x).feed == .unfed)

/-- The buses on which the report's trip cause is new (R69). -/
def Part.faultsBus (p : Part) (b : Breaker) (r : BreakerReport) (x : Bus) : Bool :=
  (r.trip == .busbar && (p.breaker b).trip != .busbar) && p.onBus b x

/-- An uncommanded opening is tallied in the breaker's record, and recorded for an incomer or the coupler (R60). -/
theorem countUncommanded_eq (b : Breaker) (p : Part) :
    countUncommanded b p =
      let q := p.setBreaker b { p.breaker b with uncommanded := tick16 (p.breaker b).uncommanded }
      if feedsBus b = true then
        q.recordFault { blankFault .uncommandedOpen with breaker := some b, source := incomerSource b }
      else q := by
  cases b <;> rfl

/-- The breaker and the position once a report is copied, before an uncommanded opening is tallied (R56, R58). -/
def Part.copied (p : Part) (b : Breaker) (r : BreakerReport) : Part :=
  if p.takes b r then (p.setBreaker b ((p.breaker b).report r)).setPosition b (positionOf r.position)
  else p.setBreaker b ((p.breaker b).report r)

/-- An uncommanded opening may be tallied before its position is taken (R60). -/
theorem Part.noted_eq (p : Part) (b : Breaker) (r : BreakerReport) :
    p.noted b r = if p.opens b r then countUncommanded b (p.copied b r) else p.copied b r := by
  have hself : (p.setBreaker b ((p.breaker b).report r)).breaker b = (p.breaker b).report r := by
    rw [Part.breaker_setBreaker, if_pos rfl]
  by_cases ho : p.opens b r
  · have ht : p.takes b r := ho.1
    have hcopied : (p.copied b r).setBreaker b
        { (p.copied b r).breaker b with uncommanded := tick16 ((p.copied b r).breaker b).uncommanded } =
          p.reported b r := by
      have hswap := (p.setBreaker b ((p.breaker b).report r)).setPosition_setBreaker (b := b)
        (v := p.reportRecord b r) (by rw [hself]; rfl) (positionOf r.position)
      rw [Part.setBreaker_setBreaker] at hswap
      rw [Part.reported, if_pos ht, hswap, Part.copied, if_pos ht]
      refine congrArg (Part.setBreaker _ b) ?_
      rw [Part.setPosition_breaker, if_pos rfl, hself, Part.reportRecord, if_pos ho]
      rfl
    rw [if_pos ho, countUncommanded_eq, hcopied, Part.noted]
    by_cases hf : feedsBus b = true
    · rw [if_pos ⟨ho, hf⟩, if_pos hf]
    · rw [if_neg fun h => hf h.2, if_neg hf]
  · have hrecord : p.reportRecord b r = (p.breaker b).report r := by
      rw [Part.reportRecord, if_neg ho]
      rfl
    rw [if_neg ho, Part.noted, if_neg fun h => ho h.1, Part.reported, hrecord]
    rfl

/-- A report taken changes the breakers, the buses, the groups, the fed domains and the Fault Log. -/
theorem Part.noted_only (p : Part) (b : Breaker) (r : BreakerReport) :
    ∃ v w g d f, p.noted b r =
      { p with
        breakers := v
        buses := w
        groups := g
        fedDomains := d
        management := { p.management with faults := f } } := by
  have hreported : ∃ v w g d, p.reported b r = { p with breakers := v, buses := w, groups := g, fedDomains := d } := by
    unfold Part.reported
    split
    · obtain ⟨v, w, g, d, h⟩ := (p.setBreaker b (p.reportRecord b r)).setPosition_only b (positionOf r.position)
      exact ⟨v, w, g, d, h⟩
    · exact ⟨_, p.buses, p.groups, p.fedDomains, rfl⟩
  obtain ⟨v, w, g, d, h⟩ := hreported
  unfold Part.noted
  rw [h]
  split
  · exact ⟨v, w, g, d, _, rfl⟩
  · exact ⟨v, w, g, d, p.management.faults, rfl⟩

/-- A test of the whole list that stands before the test of each item. -/
theorem filter_if {α : Type} (c : Bool) (f : α → Bool) (l : List α) :
    (if c = true then l.filter f else []) = l.filter (fun x => c && f x) := by
  cases c <;> simp

section

variable {p : Part} (he : p.schedule.entries = []) (b : Breaker) (r : BreakerReport)
include he

theorem Part.sentAsks_of_empty (pos : Position) : p.sentAsks b pos = false := by simp [Part.sentAsks, he]

theorem Part.filter_of_empty : p.filter b r.position = if p.takes b r then .uncommanded else .kept := by
  unfold Part.filter
  simp only [Part.sentAsks_of_empty he]
  by_cases h1 : positionOf r.position = (p.breaker b).position
  · simp [h1]
  · by_cases h2 : (p.breaker b).lastReported = some r.position <;> simp [h1, h2]

theorem uncommandedOpening_of_empty :
    uncommandedOpening (p.breaker b).position (p.filter b r.position) r.position = decide (p.opens b r) := by
  rw [Part.filter_of_empty he]
  by_cases h : p.takes b r
  · rw [if_pos h, Bool.eq_iff_iff]
    simp [uncommandedOpening, Part.opens, h.1, h.2, or_assoc]
  · rw [if_neg h, decide_eq_false fun ho => h ho.1]
    rfl

theorem Part.wayOut_of_empty : p.wayOut b (p.filter b r.position) r.position = decide (p.goesOut b r) := by
  rw [Part.filter_of_empty he]
  by_cases h : p.takes b r
  · rw [if_pos h, Bool.eq_iff_iff]
    simp [Part.wayOut, Part.goesOut, h.1, h.2, Part.sentAsks_of_empty he, and_assoc]
  · rw [if_neg h, decide_eq_false fun ho => h ho.1]
    rfl

/-- The part that a report leaves, and what it hands off (R61). -/
theorem takeReport_of_empty :
    takeReport b r p =
      (p.noted b r,
        feedTasks p (p.noted b r) ++ ((allBuses.filter (p.faultsBus b r)).map (.busFault · b) ++
          (allBuses.filter (p.losesBus b r)).map .raiseLost) ++ [.breakerEntries b] ++
          (if !feedsBus b || recordDiffers (p.breaker b) ((p.noted b r).breaker b) then [.load] else [])) := by
  have hnoted := p.noted_eq b r
  have hcopied : (if p.filter b r.position = .kept then p.setBreaker b ((p.breaker b).report r)
      else (p.setBreaker b ((p.breaker b).report r)).setPosition b (positionOf r.position)) = p.copied b r := by
    rw [Part.filter_of_empty he, Part.copied]
    by_cases h : p.takes b r
    · rw [if_pos h, if_pos h, if_neg nofun]
    · rw [if_neg h, if_neg h, if_pos rfl]
  have hon : (p.noted b r).onBus b = p.onBus b := by
    obtain ⟨v, w, g, d, f, h⟩ := p.noted_only b r
    rw [h]
    rfl
  have hfaults : (if (r.trip == .busbar && (p.breaker b).trip != .busbar) = true then
      (allBuses.filter (p.onBus b)).map (fun x => Task.busFault x b) else []) =
        (allBuses.filter (p.faultsBus b r)).map (.busFault · b) := by
    rw [← List.map_nil (f := fun x => Task.busFault x b), ← apply_ite, filter_if]
    rfl
  have hlost : (if (decide (p.opens b r) || decide (p.goesOut b r)) = true then busesLost p (p.noted b r) else []) =
      allBuses.filter (p.losesBus b r) := by
    rw [← Bool.decide_or, busesLost, filter_if]
    rfl
  unfold takeReport
  simp only [hcopied, uncommandedOpening_of_empty he, Part.wayOut_of_empty he, decide_eq_true_eq, ← hnoted, reportRaises,
    hon, hfaults, hlost]

end

/-! ### What a report hands off while the part stands down (R61, R69, R71) -/

/-- A bus enters LOCKOUT with its condition and its record (R69). -/
def Part.lockedOut (p : Part) (x : Bus) (b : Breaker) (shots : List Snapshot) : Part :=
  ((p.setBus x { p.bus x with lockout := true, returnTimer := .stopped }).raiseFlag .lockoutActive).recordFault
    { blankFault .busFault with breaker := some b, bus := some (oneBus x), snapshots := shots }

/-- A bus has a new BUSBAR trip: it is in LOCKOUT, and FAULT is raised where no take can follow (R69, R85). -/
def Part.faulted (p : Part) (b : Breaker) (shots : Bus → List Snapshot) (x : Bus) : Part :=
  (if (p.bus x).lockout = true then p else p.lockedOut x b (shots x)).raised (.fault x)

/-- The return timer of a bus in LOCKOUT stops (R73). -/
theorem judgeReturn_lockout (p : Part) (x : Bus) :
    (p.setBus x { p.bus x with lockout := true }).judgeReturn x =
      p.setBus x { p.bus x with lockout := true, returnTimer := .stopped } := by
  have hholds : (p.setBus x { p.bus x with lockout := true }).returnHolds x = false := by
    unfold Part.returnHolds
    split
    · cases x <;> simp [Part.bus, Part.setBus, PerBus.get, PerBus.set]
    · rfl
  rw [Part.judgeReturn, hholds]
  cases x <;> rfl

theorem busFault_eq (x : Bus) (b : Breaker) (p : Part) :
    busFault x b p =
      (if (p.bus x).lockout = true then p else p.lockedOut x b (p.snapshots (.bus x)), [.raise (.fault x)]) := by
  have hshots : ((p.setBus x { p.bus x with lockout := true, returnTimer := .stopped }).raiseFlag
      .lockoutActive).snapshots (.bus x) = p.snapshots (.bus x) := by
    obtain ⟨v, hv⟩ := (p.setBus x { p.bus x with lockout := true, returnTimer := .stopped }).raiseFlag_management
      .lockoutActive
    rw [hv]
    rfl
  unfold busFault
  split
  · rfl
  · simp only [judgeReturn_lockout, hshots, Part.lockedOut]

/-- The part stands down with the points and the breakers of `q`, and no entry. -/
def Part.standsAs (q p : Part) : Prop :=
  p.stoodDown ∧ p.points = q.points ∧ p.breakers = q.breakers ∧ p.schedule.entries = []

theorem Part.standsAs_of_sameButLoad {q p u : Part} (h : p.sameButLoad u) (hp : q.standsAs p) : q.standsAs u := by
  rw [h.1]
  exact hp

theorem Part.lockedOut_only (p : Part) (x : Bus) (b : Breaker) (shots : List Snapshot) :
    ∃ w m, p.lockedOut x b shots = { p with buses := w, management := m } := by
  obtain ⟨v, hv⟩ := (p.setBus x { p.bus x with lockout := true, returnTimer := .stopped }).raiseFlag_management
    .lockoutActive
  rw [Part.lockedOut, hv]
  exact ⟨_, _, rfl⟩

theorem Part.standsAs_faulted {q p : Part} (hp : q.standsAs p) (b : Breaker) (shots : Bus → List Snapshot) (x : Bus) :
    q.standsAs (p.faulted b shots x) := by
  unfold Part.faulted
  split
  · exact hp
  · obtain ⟨w, m, h⟩ := p.lockedOut_only x b (shots x)
    rw [h]
    exact hp

theorem Part.standsAs_lostRaised {q p : Part} (hp : q.standsAs p) (x : Bus) : q.standsAs (p.lostRaised x) := by
  obtain ⟨v, h⟩ := p.lostRaised_eq x
  rw [h]
  exact hp

theorem Part.snapshots_of_points {p q : Part} (h : p.points = q.points) (pt : Point) : p.snapshots pt = q.snapshots pt := by
  have hview : p.view pt = q.view pt := by
    unfold Part.view Part.point
    rw [h]
  unfold Part.snapshots
  rw [hview]

theorem Part.sameButLoad_lockedOut {p q : Part} (h : p.sameButLoad q) (x : Bus) (b : Breaker) (shots : List Snapshot) :
    (p.lockedOut x b shots).sameButLoad (q.lockedOut x b shots) := by
  have hbus : q.bus x = p.bus x := by
    rw [h.1]
    rfl
  unfold Part.lockedOut
  rw [hbus]
  exact Part.sameButLoad_recordFault (Part.sameButLoad_raiseFlag_both (Part.sameButLoad_setBus h x _) rfl) _

/-- A raise while the part stands down, of a channel that the Load Manager does not raise. -/
theorem brings_raise {p : Part} (hd : p.stoodDown) {c : Channel} (hc : loadChannel c = false) :
    Brings p [.raise c] (p.raised c) 3 := by
  intro r hr
  obtain ⟨hmode, hidle, _⟩ := Part.stoodDown_of_sameButLoad hr hd
  obtain ⟨k, hk, h⟩ := drains_raise hmode hidle c (drains_nil (r.raised c))
  exact ⟨_, k, hk, h, Part.sameButLoad_raised_both hr hc⟩

/-- A hand-off that makes one change, wherever the load records stand, before those that bring on what follows. -/
theorem brings_step {p q u : Part} {t : Task} {ts : List Task} {b : Nat}
    (h : ∀ r, p.sameButLoad r → ∃ v, runTask t r = (v, ts) ∧ q.sameButLoad v) (h' : Brings q ts u b) :
    Brings p [t] u (b + 1) := by
  intro r hr
  obtain ⟨v, ht, hv⟩ := h r hr
  obtain ⟨w, n, hn, hd, hw⟩ := h' v hv
  refine ⟨w, n + 1, by omega, drains_cons ?_, hw⟩
  rw [ht, List.append_nil]
  exact hd

theorem brings_busFault {q p : Part} (hp : q.standsAs p) (b : Breaker) (x : Bus) :
    Brings p [.busFault x b] (p.faulted b (fun x => q.snapshots (.bus x)) x) 4 := by
  have hafter : (if (p.bus x).lockout = true then p else p.lockedOut x b (q.snapshots (.bus x))).stoodDown := by
    split
    · exact hp.1
    · obtain ⟨w, m, h⟩ := p.lockedOut_only x b (q.snapshots (.bus x))
      rw [h]
      exact hp.1
  refine brings_step (fun r hr => ⟨_, busFault_eq x b r, ?_⟩) (brings_raise hafter rfl)
  have hbus : r.bus x = p.bus x := by
    rw [hr.1]
    rfl
  have hshots : r.snapshots (.bus x) = q.snapshots (.bus x) :=
    Part.snapshots_of_points (Part.standsAs_of_sameButLoad hr hp).2.1 _
  rw [hbus, hshots]
  split
  · exact hr
  · exact Part.sameButLoad_lockedOut hr x b _

theorem brings_raiseLost {p : Part} (hd : p.stoodDown) (x : Bus) : Brings p [.raiseLost x] (p.lostRaised x) 4 := by
  have hrun (r : Part) (hr : p.sameButLoad r) :
      runTask (.raiseLost x) r = (r, if (p.bus x).lockout = true then [] else [.raise (.lost x)]) := by
    rw [hr.1]
    rfl
  unfold Part.lostRaised
  by_cases h : (p.bus x).lockout = false
  · rw [if_pos h]
    refine brings_step (fun r hr => ⟨r, ?_, hr⟩) (brings_raise hd rfl)
    rw [hrun r hr, h]
    rfl
  · rw [if_neg h]
    refine brings_mono (brings_step (fun r hr => ⟨r, ?_, hr⟩) (brings_nil p)) (by omega)
    rw [hrun r hr, if_pos (by simpa using h)]

/-- The buses faulted by a report, in order (R61, step 3; R69). -/
def Part.faultedFor (p : Part) (b : Breaker) (r : BreakerReport) : Part :=
  allBuses.foldl (fun q x =>
    if p.faultsBus b r x then q.faulted b (fun x => (p.noted b r).snapshots (.bus x)) x else q) (p.noted b r)

/-- The buses faulted by a report, and then those lost by it, in order (R61, step 3; R71). -/
def Part.raisedFor (p : Part) (b : Breaker) (r : BreakerReport) : Part :=
  allBuses.foldl (fun q x => if p.losesBus b r x then q.lostRaised x else q) (p.faultedFor b r)

section

variable {p : Part} (hd : p.stoodDown) (he : p.schedule.entries = []) (b : Breaker) (r : BreakerReport)
include hd he

theorem Part.noted_standsAs : (p.noted b r).standsAs (p.noted b r) := by
  obtain ⟨v, w, g, d, f, h⟩ := p.noted_only b r
  rw [h]
  exact ⟨hd, rfl, rfl, he⟩

theorem Part.faultedFor_standsAs : (p.noted b r).standsAs (p.faultedFor b r) :=
  foldl_if_keeps (I := (p.noted b r).standsAs) (fun _ x h => Part.standsAs_faulted h b _ x) _ _
    (Part.noted_standsAs hd he b r)

theorem Part.raisedFor_standsAs : (p.noted b r).standsAs (p.raisedFor b r) :=
  foldl_if_keeps (I := (p.noted b r).standsAs) (fun _ x h => Part.standsAs_lostRaised h x) _ _
    (Part.faultedFor_standsAs hd he b r)

/-- What a report hands off raises FAULT and LOST, and otherwise reaches the Load Manager only (R61). -/
theorem brings_report : Brings (p.noted b r) (takeReport b r p).2 (p.raisedFor b r) 47 := by
  have hnoted := Part.noted_standsAs hd he b r
  have hraised := Part.raisedFor_standsAs hd he b r
  have hfeed : Brings (p.noted b r) (feedTasks p (p.noted b r)) (p.noted b r) 16 := by
    unfold feedTasks
    split
    · exact brings_of_settles fun u hu => settles_feedTold (Part.stoodDown_of_sameButLoad hu hnoted.1)
    · exact brings_mono (brings_nil _) (by omega)
  have hfaults := brings_filter (I := (p.noted b r).standsAs) (b := 4) (f := fun x => .busFault x b)
    (fun _ x h => Part.standsAs_faulted h b _ x) (fun _ x h => brings_busFault h b x) (p.faultsBus b r) allBuses hnoted
  have hlost := brings_filter (I := (p.noted b r).standsAs) (b := 4) (f := .raiseLost)
    (fun _ x h => Part.standsAs_lostRaised h x) (fun _ x h => brings_raiseLost h.1 x) (p.losesBus b r) allBuses
    (Part.faultedFor_standsAs hd he b r)
  have hentries : Brings (p.raisedFor b r) [.breakerEntries b] (p.raisedFor b r) 1 := by
    refine brings_of_settles fun u hu => settles_one (q := u) ?_ u.sameButLoad_refl
    obtain ⟨_, _, _, hnone⟩ := Part.standsAs_of_sameButLoad hu hraised
    simp [runTask, breakerEntries, Part.sentTo, hnone]
  have hload (c : Bool) : Brings (p.raisedFor b r) (if c then [.load] else []) (p.raisedFor b r) 14 := by
    cases c
    · exact brings_mono (brings_nil _) (by omega)
    · exact brings_of_settles fun u hu => settles_load (Part.stoodDown_of_sameButLoad hu hraised.1)
  rw [takeReport_of_empty he]
  exact brings_append (brings_append (brings_append hfeed (brings_append hfaults hlost)) hentries) (hload _)

end

/-- The breakers once a report is taken: the one that it is of has its record and the position taken, and no other
changes (R56, R58). -/
theorem Part.noted_breaker (p : Part) (b : Breaker) (r : BreakerReport) (c : Breaker) :
    (p.noted b r).breaker c =
      if c = b then
        { p.reportRecord b r with
          position := if p.takes b r then positionOf r.position else (p.breaker b).position }
      else p.breaker c := by
  have hnoted : (p.noted b r).breaker c = (p.reported b r).breaker c := by
    unfold Part.noted
    split <;> rfl
  have hself : (p.setBreaker b (p.reportRecord b r)).breaker b = p.reportRecord b r := by
    rw [Part.breaker_setBreaker, if_pos rfl]
  rw [hnoted, Part.reported]
  by_cases ht : p.takes b r
  · rw [if_pos ht, if_pos ht, Part.setPosition_breaker, hself, Part.breaker_setBreaker]
    split <;> rfl
  · rw [if_neg ht, if_neg ht, Part.breaker_setBreaker]
    split <;> rfl

theorem Part.noted_bus (p : Part) (b : Breaker) (r : BreakerReport) (x : Bus) :
    (p.noted b r).bus x = (p.reported b r).bus x := by
  unfold Part.noted
  split <;> rfl

/-- A report leaves the points as they are, and with them what a record shows of them (R193). -/
theorem Part.noted_snapshots (p : Part) (b : Breaker) (r : BreakerReport) (pt : Point) :
    (p.noted b r).snapshots pt = p.snapshots pt := by
  obtain ⟨v, w, g, d, f, h⟩ := p.noted_only b r
  rw [h]
  exact Part.snapshots_of_points rfl pt

theorem Part.faultsBus_iff (p : Part) (b : Breaker) (r : BreakerReport) (x : Bus) :
    p.faultsBus b r x = true ↔ r.trip = .busbar ∧ (p.breaker b).trip ≠ .busbar ∧ p.onBus b x = true := by
  simp [Part.faultsBus, and_assoc]

theorem Part.losesBus_iff (p : Part) (b : Breaker) (r : BreakerReport) (x : Bus) :
    p.losesBus b r x = true ↔ (p.opens b r ∨ p.goesOut b r) ∧
      ((p.bus x).feed ≠ .unfed ∧ (p.bus x).feed ≠ .parallel) ∧ ((p.reported b r).bus x).feed = .unfed := by
  simp only [Part.losesBus, p.noted_bus, Bool.and_eq_true, decide_eq_true_eq, beq_iff_eq]
  cases (p.bus x).feed <;> simp

/-- Settles O31: the report is taken, what it hands off raises FAULT and LOST bus by bus, and the rest settles. -/
theorem stateReportsAreFiltered : Obligations.StateReportsAreFiltered := by
  intro s b r hs hd he old reported taken opened wayOut record p q source noted fault lose
  obtain ⟨u, n, hn, hdrains, hsame⟩ := brings_report hd he b r (s.part.noted b r) (Part.sameButLoad_refl _)
  have hbound : 48 < Config.eventBound := by decide
  have hrun : runTask (.stateReport b r) s.part = (s.part.noted b r, (takeReport b r s.part).2) := by
    rw [runTask, takeReport_of_empty he]
  have hevent : exec (.stateReport b r) s = .next { s with part := u } := by
    refine congrArg Host.Outcome.next (stationEvent_of_drains hs (n := n + 1) (drains_cons ?_) (by omega))
    rw [hrun, List.append_nil]
    exact hdrains
  have hbreaker (c : Breaker) : u.breaker c = (s.part.noted b r).breaker c := by
    obtain ⟨_, _, hbreakers, _⟩ := Part.standsAs_of_sameButLoad hsame (Part.raisedFor_standsAs hd he b r)
    exact congrArg (·.get c.idx) hbreakers
  refine ⟨_, hevent, hs.1, rfl, ?_, fun c hc => ?_, fun hagrees => ?_, ?_⟩
  · rw [hbreaker, Part.noted_breaker, if_pos rfl]
    rfl
  · rw [hbreaker, Part.noted_breaker, if_neg hc]
  · exact exec_keeps Part.feedingAgrees runTask_feedingAgrees (fun straps _ => powerOn_feedingAgrees straps)
      (.stateReport b r) s _ hagrees hevent
  · have hfault (x : Bus) (v : Part) : fault x v = if s.part.faultsBus b r x then
        v.faulted b (fun x => (s.part.noted b r).snapshots (.bus x)) x else v := by
      simp only [s.part.noted_snapshots]
      exact if_congr (s.part.faultsBus_iff b r x).symm rfl rfl
    have hlose (x : Bus) (v : Part) : lose x v = if s.part.losesBus b r x then v.lostRaised x else v := by
      rw [Part.lostRaised, ← ite_and]
      refine if_congr ?_ rfl rfl
      rw [s.part.losesBus_iff, and_assoc, and_assoc, and_assoc]
      rfl
    have hraised : s.part.raisedFor b r = lose .b (lose .a (fault .b (fault .a noted))) := by
      simp only [hfault, hlose]
      rfl
    rw [← hraised]
    exact hsame

end Sys2Proof.Machine
end

section
/-! SUPPORT. The desk of the part: the arbiter's record and the channel records, which no block but the Request Arbiter,
an accepted request and RESTART changes. One lemma for each function of the other blocks that more than one hand-off
runs; what one hand-off alone runs is settled at the end, hand-off by hand-off. -/

namespace Sys2Proof.Machine

/-- What the laws of the run mode and of the channels are about (R78, R83, R85, R87). -/
def Part.desk (p : Part) : ArbiterRecord × Vector ChannelRecord 12 := (p.arbiter, p.channels)

/-- A hand-off that can change the desk: the Request Arbiter's own, a request, and RESTART. -/
def Task.setsDesk : Task → Bool
  | .raise _ | .judgeTake | .judgePreempt | .afterStart | .select _ | .planEnded _ | .endEngagement _ => true
  | .arbiterIdle | .request .. | .restart => true
  | _ => false

section

variable (p : Part)

/-- A part with the desk of `p` in its place has its desk, whatever else it holds. -/
@[simp] theorem Part.desk_mk
    {link map units time points srcSet src brkSet brk top busSet buses fed templates cands sel ex cur prev guard sync
      att timer sch groups stages m free} :
    Part.desk ⟨link, map, units, time, points, srcSet, src, brkSet, brk, top, busSet, buses, fed, p.arbiter,
      p.channels, templates, cands, sel, ex, cur, prev, guard, sync, att, timer, sch, groups, stages, m, free⟩ =
        p.desk := rfl

@[simp] theorem Part.setUnit_desk (i v) : (p.setUnit i v).desk = p.desk := rfl
@[simp] theorem Part.setPoint_desk (i v) : (p.setPoint i v).desk = p.desk := rfl
@[simp] theorem Part.setSource_desk (i v) : (p.setSource i v).desk = p.desk := rfl
@[simp] theorem Part.setBreaker_desk (i v) : (p.setBreaker i v).desk = p.desk := rfl
@[simp] theorem Part.setBus_desk (i v) : (p.setBus i v).desk = p.desk := rfl
@[simp] theorem Part.setGroup_desk (i v) : (p.setGroup i v).desk = p.desk := rfl
@[simp] theorem Part.setStage_desk (i v) : (p.setStage i v).desk = p.desk := rfl
@[simp] theorem Part.setPort_desk (i v) : (p.setPort i v).desk = p.desk := rfl
@[simp] theorem Part.setSchedule_desk (v) : (p.setSchedule v).desk = p.desk := rfl
@[simp] theorem Part.setExec_desk (v) : (p.setExec v).desk = p.desk := rfl
@[simp] theorem Part.setManagement_desk (v) : (p.setManagement v).desk = p.desk := rfl
@[simp] theorem Part.setAttempt_desk (v) : (p.setAttempt v).desk = p.desk := rfl
@[simp] theorem Part.putEntry_desk (e) : (p.putEntry e).desk = p.desk := rfl
@[simp] theorem Part.dropEntry_desk (num) : (p.dropEntry num).desk = p.desk := rfl
@[simp] theorem Part.countSchedule_desk (f) : (p.countSchedule f).desk = p.desk := rfl
@[simp] theorem Part.refreshDue_desk : p.refreshDue.desk = p.desk := rfl
@[simp] theorem Part.tally_desk (k f) : (p.tally k f).desk = p.desk := rfl
@[simp] theorem Part.nextSeq_desk : p.nextSeq.desk = p.desk := rfl
@[simp] theorem Part.clearFlag_desk (f) : (p.clearFlag f).desk = p.desk := rfl
@[simp] theorem Part.recordFault_desk (r) : (p.recordFault r).desk = p.desk := rfl
@[simp] theorem Part.judgeReturn_desk (x) : (p.judgeReturn x).desk = p.desk := rfl
@[simp] theorem Part.judgeReturns_desk : p.judgeReturns.desk = p.desk := rfl
@[simp] theorem Part.updateRecord_desk (serial f) : (p.updateRecord serial f).desk = p.desk := rfl
@[simp] theorem Part.updateStep_desk (f) : (p.updateStep f).desk = p.desk := rfl

@[simp] theorem Part.raiseFlag_desk (f : Flag) : (p.raiseFlag f).desk = p.desk := by
  simp only [Part.raiseFlag]
  split <;> rfl

@[simp] theorem Part.setIfStanding_desk (f : Flag) : (p.setIfStanding f).desk = p.desk := by
  unfold Part.setIfStanding
  split <;> simp

@[simp] theorem Part.judgeService_desk (b : Breaker) : (p.judgeService b).desk = p.desk := by
  unfold Part.judgeService
  split <;> simp

@[simp] theorem Part.setPosition_desk (b : Breaker) (pos : Position) : (p.setPosition b pos).desk = p.desk := by
  cases b <;> rfl

/-- Parts reached in turn, each with the desk of the one before it. -/
theorem foldl_desk {α : Type} {f : Part → α → Part} (h : ∀ q a, (f q a).desk = q.desk) (l : List α) :
    (l.foldl f p).desk = p.desk := by
  induction l generalizing p with
  | nil => rfl
  | cons a l ih => exact (ih (f p a)).trans (h p a)

@[simp] theorem takeRequested_desk (c : Channel) : (takeRequested c p).desk = p.desk := by cases c <;> rfl
@[simp] theorem handPlan_desk (pl : Plan) : (handPlan pl p).1.desk = p.desk := rfl

/-! ### The Link Port, the Time Base and the Monitor -/

@[simp] theorem offerForward_desk (k : Port) (bytes : List Byte) : (offerForward k bytes p).1.desk = p.desk := by
  simp only [offerForward]
  repeat' split
  all_goals rfl

@[simp] theorem takeIn_desk (k : Port) (bytes : List Byte) : (takeIn k bytes p).1.desk = p.desk := by
  unfold takeIn
  split <;> rfl

@[simp] theorem placeResponse_desk (f : ResponseFrame) (k : Port) : (placeResponse f k p).desk = p.desk := by
  simp only [placeResponse]
  repeat' split
  all_goals rfl

@[simp] theorem placeStatus_desk (f : StatusFrame) (k : Port) : (placeStatus f k p).desk = p.desk := by
  unfold placeStatus
  split <;> rfl

@[simp] theorem placeCommand_desk (f : CommandFrame) (k : Port) : (placeCommand f k p).desk = p.desk := by
  unfold placeCommand
  split <;> rfl

@[simp] theorem acceptCommand_desk (f : CommandFrame) : (acceptCommand f p).desk = p.desk := by
  unfold acceptCommand
  split <;> simp

theorem announce_desk (k : Port) (f : AnnounceFrame) : (announce k f p).1.desk = p.desk := by
  refine announce_keeps p (fun q => q.desk = p.desk) rfl (fun r n => ?_) fun _ _ _ hq => hq
  rcases claimRow_cases p k r n with h | h | h | ⟨h, _⟩ | ⟨r2, h, _⟩ <;> rw [h]
  case inr.inl => exact p.raiseFlag_desk _
  all_goals rfl

@[simp] theorem Part.slew_desk (e) : (p.slew e).desk = p.desk := rfl
@[simp] theorem Part.count_desk : p.count.desk = p.desk := rfl

theorem Part.tick_desk : p.tick.desk = p.desk := by
  simp only [Part.tick]
  split <;> split <;> rfl

@[simp] theorem timeLocked_desk (target : Nat) (e : Int) : (timeLocked target e p).1.desk = p.desk := by
  unfold timeLocked
  dsimp only
  repeat' split
  all_goals simp [stepTime]

@[simp] theorem countUncommanded_desk (b : Breaker) : (countUncommanded b p).desk = p.desk := by cases b <;> rfl

@[simp] theorem monitorIdle_desk : (monitorIdle p).desk = p.desk := by
  simp only [monitorIdle]
  repeat' split
  all_goals rfl

@[simp] theorem breakerFails_desk (b : Breaker) : (breakerFails b p).desk = p.desk := by simp [breakerFails]

@[simp] theorem countInterlock_desk (b : Breaker) : (countInterlock b p).desk = p.desk := rfl

/-- What a unit that is gone changes is its owner's (R17). -/
theorem unitGone_desk (role : Role) : (unitGone role p).1.desk = p.desk := by
  cases role <;> simp only [unitGone, breakerGone, masterGone, genGone]
  all_goals repeat' split
  all_goals simp

/-! ### The Command Scheduler and the Synchronising Unit -/

theorem Part.insertEntry_desk {p q : Part} {target : Target} {action : Action} {owner : Owner} {timed : Option Nat}
    {num : CmdNum} (h : p.insertEntry target action owner timed = .ok (q, num)) : q.desk = p.desk := by
  unfold Part.insertEntry at h
  split at h
  · cases h
  · split at h <;> cases h
    rfl

@[simp] theorem Part.insertGuard_desk (b : Breaker) (serial : Nat) : (p.insertGuard b serial).1.desk = p.desk := by
  simp only [Part.insertGuard]
  split <;> rfl

theorem Part.retimeEntry_desk {p q : Part} {num : CmdNum} {t : Nat} (h : p.retimeEntry num t = some q) :
    q.desk = p.desk := by
  unfold Part.retimeEntry at h
  split at h
  · split at h <;> cases h
    rfl
  · cases h

@[simp] theorem Part.cancelEntry_desk (num : CmdNum) : (p.cancelEntry num).desk = p.desk := by
  unfold Part.cancelEntry
  split <;> rfl

@[simp] theorem attemptSent_desk (num : CmdNum) : (attemptSent num p).desk = p.desk := by
  unfold attemptSent
  repeat' split
  all_goals rfl

@[simp] theorem countOperation_desk (target : Target) : (countOperation target p).desk = p.desk := by
  cases target <;> simp [countOperation]

@[simp] theorem sendEntry_desk (e : Entry) : (sendEntry e p).1.desk = p.desk := by
  simp only [sendEntry]
  split <;> simp

@[simp] theorem judgeHead_desk (e : Entry) : (judgeHead e p).1.desk = p.desk := by
  unfold judgeHead
  repeat' split
  all_goals simp

@[simp] theorem takeBack_desk : (takeBack p).desk = p.desk := rfl

@[simp] theorem offerCopy_desk (f : CommandFrame) (k : Port) : (offerCopy f k p).desk = p.desk := by
  unfold offerCopy
  split <;> simp

@[simp] theorem offerHeld_desk (c : HeldCopy) : (offerHeld c p).desk = p.desk := by
  simp only [offerHeld]
  split <;> split <;> simp

@[simp] theorem resolve_desk (e o) : (resolve e o p).1.desk = p.desk := rfl
@[simp] theorem refuse_desk (e r) : (refuse e r p).1.desk = p.desk := rfl
@[simp] theorem finishAttempt_desk (a st r) : (finishAttempt a st r p).desk = p.desk := rfl
@[simp] theorem endAttempt_desk (a st r) : (endAttempt a st r p).1.desk = p.desk := rfl

@[simp] theorem cancelAttemptEntry_desk (a : AttemptRecord) : (cancelAttemptEntry a p).1.desk = p.desk := by
  unfold cancelAttemptEntry
  split <;> simp

@[simp] theorem breakOff_desk (a st r) : (breakOff a st r p).1.desk = p.desk := by simp [breakOff]

@[simp] theorem arm_desk (a : AttemptRecord) (tc : Nat) : (arm a tc p).1.desk = p.desk := by
  unfold arm
  split
  · next h => simpa using Part.insertEntry_desk h
  · rfl

@[simp] theorem retime_desk (a : AttemptRecord) (tc : Nat) : (retime a tc p).1.desk = p.desk := by
  unfold retime
  split
  · rfl
  · split
    · rfl
    · split
      · next h => simpa using Part.retimeEntry_desk h
      · simp

@[simp] theorem evaluateAttempt_desk (a : AttemptRecord) : (evaluateAttempt a p).1.desk = p.desk := by
  unfold evaluateAttempt
  dsimp only
  repeat' split
  all_goals simp [disarm]

@[simp] theorem abandonAttempt_desk : (abandonAttempt p).desk = p.desk := by
  unfold abandonAttempt
  dsimp only
  repeat' split
  all_goals simp

/-! ### The Plan Executor and its guard -/

@[simp] theorem endStep_desk (o) : (endStep o p).desk = p.desk := rfl
@[simp] theorem passStep_desk (o) : (passStep o p).1.desk = p.desk := rfl
@[simp] theorem waitTimer_desk (n) : (waitTimer n p).1.desk = p.desk := rfl
@[simp] theorem decideEnd_desk (o) : (decideEnd o p).desk = p.desk := rfl
@[simp] theorem decideAborted_desk : (decideAborted p).1.desk = p.desk := rfl
@[simp] theorem endGuard_desk (mark) : (endGuard mark p).desk = p.desk := rfl

@[simp] theorem cancelQueued_desk : (cancelQueued p).desk = p.desk :=
  foldl_desk p (fun q num => q.cancelEntry_desk num) _

@[simp] theorem failNow_desk (r : Reason) : (failNow r p).1.desk = p.desk := by simp [failNow]

@[simp] theorem placeEntryFor_desk (target : Target) (action : Action) (group : Option Grp) :
    (placeEntryFor target action group p).1.desk = p.desk := by
  unfold placeEntryFor
  dsimp only
  split
  · rfl
  · split
    · rfl
    · next h => simpa using Part.insertEntry_desk h

/-- A step that begins passes, fails, waits, places an entry or starts an attempt, by its kind (R117, R119–R127). -/
@[simp] theorem beginKind_desk (s : Step) : (beginKind s p).1.desk = p.desk := by
  cases s <;>
    simp only [beginKind, beginOpen, beginClose, beginSync, beginRun, beginStop, beginShedFit, startAttempt]
  all_goals repeat' split
  all_goals simp

@[simp] theorem abandonStep_desk : (abandonStep p).1.desk = p.desk := by
  unfold abandonStep
  split <;> rfl

@[simp] theorem settleAborted_desk : (settleAborted p).1.desk = p.desk := by
  unfold settleAborted
  dsimp only
  repeat' split
  all_goals rfl

@[simp] theorem judgeGuard_desk (b : Breaker) (r i : Point) (set : Fin 4) : (judgeGuard b r i set p).desk = p.desk := by
  unfold judgeGuard
  dsimp only
  split <;> rfl

@[simp] theorem endParallel_desk (s : Step) : (endParallel s p).desk = p.desk := by
  unfold endParallel
  repeat' split
  all_goals rfl

@[simp] theorem entryConfirmed_desk (s : Step) (told : List Task) : (entryConfirmed s told p).1.desk = p.desk := by
  unfold entryConfirmed
  dsimp only
  repeat' split
  all_goals simp

@[simp] theorem entryAborting_desk (s : Step) (r : Option Reason) (told : List Task) :
    (entryAborting s r told p).1.desk = p.desk := by
  simp only [entryAborting]
  split <;> simp

@[simp] theorem guardEntry_desk (num : CmdNum) (serial : Nat) (o : EntryOutcome) :
    (guardEntry num serial o p).1.desk = p.desk := by
  simp only [guardEntry]
  split <;> rfl

/-! ### The Load Manager -/

@[simp] theorem restoreStage_desk (x : Bus) : (restoreStage x p).1.desk = p.desk := by
  obtain ⟨v, h | h⟩ := restoreStage_only p x
  · simp [h]
  · simp [h]

@[simp] theorem judgeCandidate_desk (x : Bus) : (judgeCandidate x p).1.desk = p.desk := by
  unfold judgeCandidate restoreBlocked
  dsimp only
  repeat' split
  all_goals simp

theorem shedNext_desk (serial step : Nat) (gs : List Grp) : (shedNext serial step gs p).1.desk = p.desk := by
  unfold shedNext
  split
  · rfl
  · split
    · exact placeEntryFor_desk p ..
    · rfl

end

/-! ### Every hand-off that is not the Request Arbiter's, a request or RESTART -/

/-- The desk is the Request Arbiter's, the requests' and RESTART's: of the other hand-offs, those that are not settled
above replace records of their own blocks in each of their branches. -/
theorem runTask_desk {t : Task} (ht : t.setsDesk = false) (p : Part) : (runTask t p).1.desk = p.desk := by
  cases t <;> simp [Task.setsDesk] at ht <;> simp only [runTask]
  case announce => exact announce_desk ..
  case unitGone => exact unitGone_desk ..
  case recordFault => rfl
  case shedNext => exact shedNext_desk ..
  case restoreStage => exact restoreStage_desk ..
  case loadOutcome c => cases c <;> rfl
  all_goals
    simp only [receive, portUp, portDown, transmitEnd, silenceExpiry, mapFrame, supervise, egress, statusExpiry,
      respond, unitLost, takeForeign, respondOperate, timeFrame, stepTime, holdoverExpiry, slewInstant, takeReading,
      takeGenstat, sourceReading, pointBlind, sourceChanged, genChanged, pickupExpiry, takeReport, unplannedExpiry,
      deadConfirmExpiry, returnExpiry, liveState, feedTold, busFault, raiseLost, startBus, waitdeadTimeout, dwellExpiry,
      waithealthyTimeout, guardExpiry, abort, beginStep, nextStep, failStep, stepEntry, windDown, waitDeadCheck,
      healthCheck, runCheck, guardFeed, guardTripped, guardFailPlan, attemptDone, syncLimitExpiry, evaluate,
      timeQualityPoor, attemptEntry, entryDue, deadlineExpiry, handOver, reportEntry, operateEntry, breakerEntries,
      judgeBreakerEntry, sourceEntries, judgeSourceEntry, frequencyExpiry, capacityExpiry, settleExpiry, staggerExpiry,
      load, shedStage, shedNow, shedRaised, capacityShort, restoreOutcome, loadStart, shedMark]
    repeat' split
    all_goals simp

end Sys2Proof.Machine
end

section
/-! SUPPORT. The requests that leave the desk as it is, which are all but START, HALT, TRANSFER, TEST, CONFIRM and
SET_CHANNEL; and what START, HALT and RESTART make of the part. -/

namespace Sys2Proof.Machine

/-- A request that can change the desk (R80, R81, R86, R87, R92). -/
def requestSetsDesk : Request → Bool
  | .start | .halt | .transfer _ | .test _ | .confirm _ | .setChannel .. => true
  | _ => false

section

variable (p : Part)

/-- A write leaves the desk where it leaves it when it is applied (R189). -/
theorem writeWith_desk {α : Type} {m : Sender} {table first count : Nat} {rows : Judged (List α)}
    {whole : List α → Option RefusedReason} {apply : List α → Res} (h : ∀ ks, (apply ks).1.desk = p.desk) :
    (writeWith m table first count p rows whole apply).1.desk = p.desk :=
  writeWith_keeps (fun q => q.desk = p.desk) rfl fun ks _ _ _ => h ks

theorem applyLive_desk (row : Nat) (k : LiveRow) : (applyLive row k p).desk = p.desk := by
  cases k <;> simp only [applyLive]
  case point => split <;> rfl
  all_goals rfl

theorem applyLives_desk (ks : List LiveRow) (row : Nat) : (applyLives ks row p).desk = p.desk := by
  induction ks generalizing row p with
  | nil => rfl
  | cons k ks ih => exact (ih ..).trans (applyLive_desk ..)

theorem applyMap_desk (ks : List UnitMapRow) (i : Nat) : (applyMap ks i p).1.desk = p.desk := by
  induction ks generalizing i p with
  | nil => rfl
  | cons k ks ih =>
    simp only [applyMap]
    split
    · exact ih ..
    · rfl

theorem rekindAll_desk (old : Topology) (ss : List Src) : (rekindAll old ss p).1.desk = p.desk := by
  induction ss generalizing p with
  | nil => rfl
  | cons s ss ih => exact ih _

theorem applyTopology_desk (t : Topology) : (applyTopology t p).1.desk = p.desk :=
  rekindAll_desk { p with topology := t } p.topology allSrcs

theorem clearTallies_desk (first count : Nat) : (clearTallies first count p).desk = p.desk := by
  simp only [clearTallies]
  split <;> split <;> rfl

theorem requestAck_desk (m : Sender) (flags : List (Option Flag)) : (requestAck m flags p).1.desk = p.desk := by
  unfold requestAck
  split
  · rfl
  · exact (foldl_desk _ (fun q f => q.raiseFlag_desk f) _).trans (foldl_desk p (fun q f => q.clearFlag_desk f) _)

theorem requestOperate_desk (m : Sender) (n : Nat) (a : Option Action) :
    (requestOperate m n a p).1.desk = p.desk := by
  unfold requestOperate
  split
  · rfl
  · split
    · rfl
    · rfl
    · split
      · next h => exact Part.insertEntry_desk h
      · rfl

theorem carryOut_desk (m : Sender) {r : Request} (h : requestSetsDesk r = false) :
    (carryOut m r p).1.desk = p.desk := by
  cases r <;> simp [requestSetsDesk] at h <;> simp only [carryOut]
  case writeRows => exact writeWith_desk p fun _ => applyLives_desk ..
  case writeUnitMap => exact writeWith_desk p fun _ => applyMap_desk ..
  case writeTopology => exact writeWith_desk p fun _ => applyTopology_desk ..
  case writeBreakerSettings => exact writeWith_desk p fun _ => foldl_desk _ (fun q b => q.judgeService_desk b) _
  case clearPortTallies => exact writeWith_desk p fun _ => clearTallies_desk ..
  case writeTemplates => exact writeWith_desk p fun _ => rfl
  case writeCandidateLists => exact writeWith_desk p fun _ => rfl
  case writeSourceSettings => exact writeWith_desk p fun _ => rfl
  case writeBusSettings => exact writeWith_desk p fun _ => rfl
  case writeGroupTable => exact writeWith_desk p fun _ => rfl
  case ackConditions => exact requestAck_desk ..
  case operate => exact requestOperate_desk ..
  case unknown => rfl
  all_goals
    simp only [readRows, requestClearFaults, requestServiceOut, requestServiceIn, requestClearLockout,
      requestResetBreaker, requestRestoreGroup, requestIdentify, requestRestart]
    repeat' split
    all_goals rfl

/-- START changes nothing, or is accepted and the part enters AUTO (R79, R80). -/
theorem requestStart_cases (m : Sender) : (requestStart m p).1 = p ∨ (requestStart m p).1 = beginAuto p := by
  unfold requestStart
  split
  · exact .inl rfl
  · split
    · exact .inl rfl
    · exact .inr rfl

/-- HALT changes nothing, has the part enter HALTED, or leaves halt requested (R81, R82). -/
theorem requestHalt_cases (m : Sender) :
    (requestHalt m p).1 = p ∨ (requestHalt m p).1 = enterHalted p ∨
      (requestHalt m p).1 = { p with arbiter := { p.arbiter with halt := true } } := by
  unfold requestHalt
  split
  · exact .inl rfl
  · split
    · exact .inl rfl
    · dsimp only
      split
      · exact .inr (.inl rfl)
      · exact .inr (.inr rfl)
      · exact .inr (.inr rfl)

/-- RESTART sets condition flags over the RESTART values (R196). -/
theorem restart_desk : (restart p).1.desk = p.restarted.desk :=
  foldl_desk _ (fun q f => q.setIfStanding_desk f) _

end

end Sys2Proof.Machine
end

section
/-! PROOF. O7: every step keeps the RUN output high exactly in AUTO. -/

namespace Sys2Proof.Machine

theorem Part.run_of_desk {p q : Part} (h : q.desk = p.desk) : q.arbiter.run = p.arbiter.run := congrArg (·.1.run) h

theorem Part.run_of_givens {p q : Part} (h : q.givens = p.givens) : q.arbiter.run = p.arbiter.run :=
  congrArg (·.2.2.2) h

/-- A hand-off that can change the run mode: an IDLE executor is told of, a request, and RESTART (R80–R82, R196). -/
def Task.setsRun : Task → Bool
  | .arbiterIdle | .request .. | .restart => true
  | _ => false

theorem runTask_run {t : Task} (ht : t.setsRun = false) (p : Part) : (runTask t p).1.arbiter.run = p.arbiter.run := by
  by_cases hd : t.setsDesk = false
  · exact Part.run_of_desk (runTask_desk hd p)
  · cases t <;> try exact absurd rfl hd
    case raise => exact Part.run_of_givens (raise_inner ..).1
    case judgeTake => exact Part.run_of_givens (judgeTake_inner p).1
    case judgePreempt => exact Part.run_of_givens (judgePreempt_inner p).1
    case afterStart => exact Part.run_of_givens (afterStart_inner p).1
    case select => exact Part.run_of_givens (select_inner ..).1
    case planEnded => exact Part.run_of_givens (planEnded_inner ..).1
    case endEngagement => exact Part.run_of_givens (endEngagement_inner ..).1
    all_goals cases ht

/-- With halt requested, an executor that becomes IDLE has the part enter HALTED; else the run mode stays (R82). -/
theorem arbiterIdle_cases (p : Part) :
    arbiterIdle p = (enterHalted p, []) ∨ (arbiterIdle p).1.arbiter.run = p.arbiter.run := by
  by_cases h : p.arbiter.halt = true
  · exact .inl (if_pos h)
  · exact .inr (Part.run_of_givens (arbiterIdle_givens p (Bool.not_eq_true _ ▸ h)))

theorem Part.runOutputAgrees_of_run {p q : Part} (h : q.arbiter.run = p.arbiter.run) (hp : p.runOutputAgrees) :
    q.runOutputAgrees := by
  have hmode : q.arbiter.mode = p.arbiter.mode := congrArg Prod.fst h
  have hout : q.arbiter.runOut = p.arbiter.runOut := congrArg (·.2.1) h
  rwa [Part.runOutputAgrees, hmode, hout]

section

variable {p : Part} (hp : p.runOutputAgrees)
include hp

theorem arbiterIdle_runOutputAgrees : (arbiterIdle p).1.runOutputAgrees := by
  obtain h | h := arbiterIdle_cases p
  · rw [h]
    rfl
  · exact Part.runOutputAgrees_of_run h hp

/-- Of the requests, START raises the RUN output as it enters AUTO, and HALT drops it as it enters HALTED (R80–R82). -/
theorem carryOut_runOutputAgrees (m : Sender) (r : Request) : (carryOut m r p).1.runOutputAgrees := by
  by_cases hr : requestSetsDesk r = false
  · exact Part.runOutputAgrees_of_run (Part.run_of_desk (carryOut_desk p m hr)) hp
  · cases r <;> try exact absurd rfl hr
    case start =>
      obtain h | h := requestStart_cases p m <;> rw [carryOut, h]
      · exact hp
      · rfl
    case halt =>
      obtain h | h | h := requestHalt_cases p m <;> rw [carryOut, h]
      · exact hp
      · rfl
      · exact hp
    all_goals
      simp only [carryOut, requestTemplate, requestConfirm, requestSetChannel]
      repeat' split
      all_goals exact hp

end

/-- RESTART ends in HALTED with the RUN output low, as POWER-ON does (R78, R196). -/
theorem restart_runOutputAgrees (p : Part) : (restart p).1.runOutputAgrees :=
  Part.runOutputAgrees_of_run (Part.run_of_desk (restart_desk p)) rfl

theorem runTask_runOutputAgrees (t : Task) (p : Part) (hp : p.runOutputAgrees) : (runTask t p).1.runOutputAgrees := by
  by_cases ht : t.setsRun = false
  · exact Part.runOutputAgrees_of_run (runTask_run ht p) hp
  · cases t <;> try exact absurd rfl ht
    case request m r => exact carryOut_runOutputAgrees (p := p.countRequest) hp m r
    case restart => exact restart_runOutputAgrees p
    case arbiterIdle => exact arbiterIdle_runOutputAgrees hp

/-- Settles O7: only START, HALT, RESTART and an IDLE executor with halt requested change the run mode, and each sets
the RUN output with it. -/
theorem stepsKeepTheRunOutput : Obligations.StepsKeepTheRunOutput :=
  step_keeps Part.runOutputAgrees runTask_runOutputAgrees (fun _ _ => rfl)
    (fun p hp => Part.runOutputAgrees_of_run (Part.run_of_desk p.tick_desk) hp) fun _ _ hp => hp

end Sys2Proof.Machine
end

section
/-! PROOF. O9: every step keeps at most one channel engaged, and only enabled channels pending. -/

namespace Sys2Proof.Machine

/-! ### Finding the engaged channel (R83) -/

theorem Channel.mem_descending (c : Channel) : c ∈ Channel.descending := by
  rcases c with (_ | _) | (_ | _) | (_ | _) | _ | (_ | _) | (_ | _) | _ <;> decide

theorem Part.engaged_of_engagedChannel_none {p : Part} (h : p.engagedChannel = none) (c : Channel) :
    (p.channel c).engaged = .no := by
  simpa using List.find?_eq_none.mp h c (Channel.mem_descending c)

theorem Part.engaged_of_engagedChannel {p : Part} {c : Channel} (h : p.engagedChannel = some c) :
    (p.channel c).engaged ≠ .no := by
  simpa using List.find?_some h

/-! ### Replacing channel records -/

/-- A channel record is pending only while it is enabled (R85, R87). -/
def ChannelRecord.sound (r : ChannelRecord) : Prop := r.pending = true → r.enable = true

theorem Part.channel_of_desk {p q : Part} (h : q.desk = p.desk) (c : Channel) : q.channel c = p.channel c :=
  congrArg (·.2.get c.idx) h

theorem Part.channelsSound_of_desk {p q : Part} (h : q.desk = p.desk) (hp : p.channelsSound) : q.channelsSound := by
  simpa only [Part.channelsSound, Part.channel_of_desk h] using hp

/-- Channels are sound if no more of them are engaged than were, and only enabled ones are pending. -/
theorem Part.channelsSound_of_fewer {p q : Part} (hp : p.channelsSound)
    (he : ∀ c, (q.channel c).engaged ≠ .no → (p.channel c).engaged ≠ .no) (hs : ∀ c, (q.channel c).sound) :
    q.channelsSound :=
  ⟨fun c d hc hd => hp.1 c d (he c hc) (he d hd), hs⟩

/-- Channels are sound if at most a given one is engaged, and only enabled ones are pending. -/
theorem Part.channelsSound_of_only {q : Part} {c : Channel} (he : ∀ d, (q.channel d).engaged ≠ .no → d = c)
    (hs : ∀ d, (q.channel d).sound) : q.channelsSound :=
  ⟨fun d e hd hee => (he d hd).trans (he e hee).symm, hs⟩

theorem Part.setChannel_sound {p : Part} (hs : ∀ d, (p.channel d).sound) {c : Channel} {v : ChannelRecord}
    (hv : v.sound) (d : Channel) : ((p.setChannel c v).channel d).sound := by
  rw [Part.channel_setChannel]
  split
  · exact hv
  · exact hs d

theorem Part.engage_sound {p : Part} (hs : ∀ d, (p.channel d).sound) (c : Channel) (e : Engaged) (d : Channel) :
    ((p.engage c e).channel d).sound :=
  Part.setChannel_sound hs (v := { p.channel c with engaged := e }) (hs c) d

theorem beginAuto_channelsSound (p : Part) : (beginAuto p).channelsSound := by
  simp [Part.channelsSound, beginAuto, Part.channel]

section

variable {p : Part} (hp : p.channelsSound)
include hp

/-- A channel's record is replaced by one that is engaged only where the channel was. -/
theorem setChannel_channelsSound {c : Channel} {v : ChannelRecord} (hv : v.sound)
    (he : v.engaged ≠ .no → (p.channel c).engaged ≠ .no) : (p.setChannel c v).channelsSound := by
  refine Part.channelsSound_of_fewer hp (fun d => ?_) (Part.setChannel_sound hp.2 hv)
  rw [Part.channel_setChannel]
  split
  · next h => exact h ▸ he
  · exact id

theorem engage_channelsSound {c : Channel} {e : Engaged} (he : e ≠ .no → (p.channel c).engaged ≠ .no) :
    (p.engage c e).channelsSound := setChannel_channelsSound hp (hp.2 c) he

theorem recordOutcome_channelsSound (c : Channel) (o : ChannelOutcome) : (recordOutcome c o p).1.channelsSound :=
  setChannel_channelsSound hp (hp.2 c) id

theorem chosenTemplate_channelsSound (c : Channel) (o : Option TemplateRef) :
    (p.setChannel c { p.channel c with template := o }).channelsSound :=
  setChannel_channelsSound hp (hp.2 c) id

/-! ### The Request Arbiter's hand-offs -/

theorem raise_channelsSound (c : Channel) : (raise c p).1.channelsSound := by
  simp only [raise]
  split
  · next h =>
    obtain ⟨henable, _⟩ := Bool.and_eq_true_iff.mp h
    exact setChannel_channelsSound hp (fun _ => henable) id
  · exact setChannel_channelsSound hp (hp.2 c) id

/-- The channel that is taken becomes the one engaged: another that was HELD is superseded (R88, R89). -/
theorem judgeTake_channelsSound : (judgeTake p).1.channelsSound := by
  unfold judgeTake
  split
  · exact hp
  · next c _ =>
    have hs := Part.setChannel_sound hp.2 (c := c)
      (v := { p.channel c with pending := false, engaged := .running }) nofun
    dsimp only
    split
    · next hnone =>
      refine Part.channelsSound_of_only (c := c) (fun d hd => ?_) hs
      by_contra hne
      rw [Part.channel_setChannel, if_neg hne] at hd
      exact hd (Part.engaged_of_engagedChannel_none hnone d)
    · next h hheld =>
      refine recordOutcome_channelsSound (Part.channelsSound_of_only (c := c) (fun d hd => ?_)
        (Part.engage_sound hs h .no)) h .superseded
      by_contra hne
      rw [Part.engage, Part.channel_setChannel] at hd
      split at hd
      · exact hd rfl
      · next hdh =>
        rw [Part.channel_setChannel, if_neg hne] at hd
        exact hdh (hp.1 d h hd (Part.engaged_of_engagedChannel hheld))

/-- A selection writes its channel's template and perhaps its outcome; the hand-over is the executor's (R89). -/
theorem select_channelsSound (c : Channel) : (select c p).1.channelsSound := by
  have hrequested : (takeRequested c { p with selection := some (p.choosePlan c).record }).channelsSound :=
    Part.channelsSound_of_desk (takeRequested_desk _ c) hp
  have htaken := chosenTemplate_channelsSound hrequested c (p.choosePlan c).record.outcome
  unfold select
  dsimp only
  split
  · exact Part.channelsSound_of_desk (handPlan_desk ..) htaken
  · refine recordOutcome_channelsSound ?_ c .noPath
    split
    · exact Part.channelsSound_of_desk ((Part.raiseFlag_desk ..).trans (Part.recordFault_desk ..)) htaken
    · exact Part.channelsSound_of_desk (Part.recordFault_desk ..) htaken

theorem planEnded_channelsSound (o : PlanOutcome) : (planEnded o p).1.channelsSound := by
  unfold planEnded
  split
  · exact recordOutcome_channelsSound hp ..
  · exact hp

theorem endEngagement_channelsSound (c : Channel) : (endEngagement c p).1.channelsSound := by
  unfold endEngagement
  split
  · next h => exact engage_channelsSound hp fun _ => by simp [h]
  · exact hp

theorem enterHalted_channelsSound : (enterHalted p).channelsSound := by
  refine Part.channelsSound_of_fewer hp (fun c h => absurd ?_ h) (fun c => ?_)
  · simp [enterHalted, Part.channel]
  · simpa [enterHalted, Part.channel, ChannelRecord.sound] using hp.2 c

/-- A preempted channel that is enabled is pending again (R94). -/
theorem arbiterIdle_channelsSound : (arbiterIdle p).1.channelsSound := by
  unfold arbiterIdle
  dsimp only
  split
  · exact enterHalted_channelsSound hp
  · split
    · split
      · next c _ =>
        refine setChannel_channelsSound (p := { p with arbiter := _ }) hp (fun h => ?_) nofun
        exact (Bool.or_eq_true_iff.mp h).elim (hp.2 c) id
      · exact hp
    · split <;> exact hp

theorem judgePreempt_channelsSound : (judgePreempt p).1.channelsSound := by
  unfold judgePreempt
  split
  · split <;> exact hp
  · exact hp

/-! ### Requests and RESTART -/

theorem requestSetChannel_channelsSound (m : Sender) (n : Nat) (enable mask : Bool) (mode : CompletionMode) :
    (requestSetChannel m n enable mask mode p).1.channelsSound := by
  unfold requestSetChannel
  split
  · exact hp
  · next c _ =>
    refine setChannel_channelsSound hp (fun h => (Bool.and_eq_true_iff.mp h).2) fun he => ?_
    simp only [ChannelRecord.withSettings] at he
    split at he
    · exact absurd rfl he
    · exact he

/-- Of the requests, START and HALT release the channels, CONFIRM one of them, and SET_CHANNEL may end one's pending
(R80, R82, R87, R92). -/
theorem carryOut_channelsSound (m : Sender) (r : Request) : (carryOut m r p).1.channelsSound := by
  by_cases hr : requestSetsDesk r = false
  · exact Part.channelsSound_of_desk (carryOut_desk p m hr) hp
  · cases r <;> try exact absurd rfl hr
    case start =>
      obtain h | h := requestStart_cases p m <;> rw [carryOut, h]
      · exact hp
      · exact beginAuto_channelsSound p
    case halt =>
      obtain h | h | h := requestHalt_cases p m <;> rw [carryOut, h]
      · exact hp
      · exact enterHalted_channelsSound hp
      · exact hp
    case confirm =>
      simp only [carryOut, requestConfirm]
      split
      · exact hp
      · split
        · exact engage_channelsSound hp (absurd rfl)
        · exact hp
    case setChannel => exact requestSetChannel_channelsSound hp ..
    all_goals
      simp only [carryOut, requestTemplate]
      split
      · exact hp
      · split
        · exact setChannel_channelsSound hp (hp.2 _) id
        · exact hp

end

/-- RESTART leaves no channel engaged or pending (R84, R196). -/
theorem restart_channelsSound (p : Part) : (restart p).1.channelsSound := by
  refine Part.channelsSound_of_desk (restart_desk p) ?_
  simp [Part.channelsSound, Part.restarted_channel, restartChannel]

theorem runTask_channelsSound (t : Task) (p : Part) (hp : p.channelsSound) : (runTask t p).1.channelsSound := by
  by_cases ht : t.setsDesk = false
  · exact Part.channelsSound_of_desk (runTask_desk ht p) hp
  · cases t <;> try exact absurd rfl ht
    case request m r => exact carryOut_channelsSound (p := p.countRequest) hp m r
    case restart => exact restart_channelsSound p
    case raise => exact raise_channelsSound hp _
    case judgeTake => exact judgeTake_channelsSound hp
    case judgePreempt => exact judgePreempt_channelsSound hp
    case afterStart => exact hp
    case select => exact select_channelsSound hp _
    case planEnded => exact planEnded_channelsSound hp _
    case endEngagement => exact endEngagement_channelsSound hp _
    case arbiterIdle => exact arbiterIdle_channelsSound hp

/-- Settles O9: a take is the only hand-off that engages a channel, and it supersedes the one that was engaged. -/
theorem stepsKeepTheChannelsSound : Obligations.StepsKeepTheChannelsSound :=
  step_keeps Part.channelsSound runTask_channelsSound (fun straps _ => powerOn_channelsSound straps)
    (fun p hp => Part.channelsSound_of_desk p.tick_desk hp) fun _ _ hp => hp

end Sys2Proof.Machine
end

section
/-! PROOF. O39: HALT is refused, stops an idle part, or is kept requested. -/

namespace Sys2Proof.Machine

section

variable {m : Sender} {p : Part}

theorem requestHalt_halted (h : p.arbiter.mode = .halted) : requestHalt m p = refused m .mode p := if_pos h

/-- HALT with halt already requested has no effect but its answer (R81). -/
theorem requestHalt_again (h : p.arbiter.mode = .auto) (hh : p.arbiter.halt = true) :
    requestHalt m p = (p, [.respond m .done []]) := by
  simp [requestHalt, h, hh, answered]

theorem requestHalt_idle (h : p.arbiter.mode = .auto) (hh : p.arbiter.halt = false) (he : p.exec.state = .idle) :
    requestHalt m p = (enterHalted p, [.respond m .done []]) := by
  simp [requestHalt, h, hh, he, answered, enterHalted]

theorem requestHalt_aborting (h : p.arbiter.mode = .auto) (hh : p.arbiter.halt = false)
    (he : p.exec.state = .aborting) :
    requestHalt m p = ({ p with arbiter := { p.arbiter with halt := true } }, [.respond m .done []]) := by
  simp [requestHalt, h, hh, he, answered]

/-- HALT orders an abort of a running plan, unless one is ordered already (R81, R132). -/
theorem requestHalt_running (h : p.arbiter.mode = .auto) (hh : p.arbiter.halt = false)
    (he : p.exec.state = .running) :
    requestHalt m p =
      ({ p with arbiter := { p.arbiter with halt := true } },
        (if p.arbiter.abort = .none then [.abort .halt] else []) ++ [.respond m .done []]) := by
  simp [requestHalt, h, hh, he, answered]

end

/-- The part is HALTED or has halt requested (R81, R82). -/
def Part.stopping (p : Part) : Prop := p.arbiter.mode = .halted ∨ p.arbiter.halt = true

theorem Part.stopping_of_run {p q : Part} (h : q.arbiter.run = p.arbiter.run) (hp : p.stopping) : q.stopping := by
  have hmode : q.arbiter.mode = p.arbiter.mode := congrArg Prod.fst h
  have hhalt : q.arbiter.halt = p.arbiter.halt := congrArg (·.2.2) h
  rwa [Part.stopping, hmode, hhalt]

/-- No hand-off that a plan's abort can come to withdraws a halt request before the part is HALTED (R82). -/
theorem runTask_stopping {t : Task} (ht : t.inner = true) {p : Part} (hp : p.stopping) : (runTask t p).1.stopping := by
  by_cases hr : t.setsRun = false
  · exact Part.stopping_of_run (runTask_run hr p) hp
  · cases t <;> try exact absurd rfl hr
    case arbiterIdle =>
      obtain h | h := arbiterIdle_cases p
      · rw [runTask, h]
        exact .inl rfl
      · exact Part.stopping_of_run h hp
    all_goals cases ht

theorem drain_stopping {ts : List Task} (h : ts.all Task.inner = true) {p : Part} (hp : p.stopping) (n : Nat) :
    (drain n ts p).1.stopping :=
  drain_keeps_of_closed (fun t => t.inner = true) Part.stopping
    (fun _ q ht u hu => List.all_eq_true.mp (runTask_inner ht q).2 u hu) (fun _ _ ht hq => runTask_stopping ht hq)
    n ts p (List.all_eq_true.mp h) hp

/-- Settles O39: the request comes to the branch of the run mode and of the executor's state; what an abort then does
leaves the halt request, or ends in HALTED. -/
theorem haltStopsThePart : Obligations.HaltStopsThePart := by
  intro m s hs hr p
  refine ⟨fun h => ?_, fun h hh => ?_, fun h hh he => ?_, fun h hh he => ?_, fun h hh he => ⟨_, rfl, ?_⟩⟩
  · exact requestEvent_refused hs hr (requestHalt_halted (p := p) h)
  · exact requestEvent_answered hs hr (requestHalt_again (p := p) h hh)
  · exact congrArg Host.Outcome.next (requestEvent_of_answer hs (Part.linkRests_of_ports (p := s.part) rfl hr)
      (requestHalt_idle (p := p) h hh he))
  · exact congrArg Host.Outcome.next (requestEvent_of_answer hs (Part.linkRests_of_ports (p := s.part) rfl hr)
      (requestHalt_aborting (p := p) h hh he))
  · have hcarry : carryOut m .halt p = _ := requestHalt_running (p := p) h hh he
    have hinner : ((if p.arbiter.abort = AbortOrder.none then [Task.abort .halt] else []) ++
        [Task.respond m .done []]).all Task.inner = true := by split <;> rfl
    have hstopping : { p with arbiter := { p.arbiter with halt := true } }.stopping := .inr rfl
    have hpart := requestEvent_part hs m .halt
    rw [hcarry] at hpart
    exact hpart ▸ drain_stopping hinner hstopping _

end Sys2Proof.Machine
end

section
/-! PROOF. O41: TRANSFER, TEST and RESTORE_GROUP raise their channels. -/

namespace Sys2Proof.Machine

/-- A request that raises a channel in front of its answer, while no take can follow (R85). -/
theorem requestEvent_raise {s : State} {m : Sender} {r : Request} {p : Part} {c : Channel} {a : Answer} (hs : s.serves)
    (hp : p.linkRests) (hd : p.stoodDown) (h : carryOut m r s.part.countRequest = (p, [.raise c, .respond m a []])) :
    (.next (s.requestEvent m r) : Out) = .next { s with part := (p.raised c).answerWith m a [] } := by
  have ⟨hmode, hidle, _⟩ := hd
  obtain ⟨n, hn, hdrains⟩ := drains_raise hmode hidle c (drains_respond (p := p.raised c) hp m a [])
  have hbound : 6 < Config.eventBound := by decide
  refine congrArg Host.Outcome.next (requestEvent_of_drains hs (n := n) ?_ (by omega))
  rw [h]
  exact hdrains

section

variable {m : Sender} {p : Part}

theorem requestTemplate_out {c : Channel} {n : Nat} (h : n = 0 ∨ 24 < n) :
    requestTemplate c m n p = refused m .value p := by
  simp only [requestTemplate, indexOf_out 24 n h]

theorem requestTemplate_enabled {c : Channel} (i : Fin 24) (h : (p.channel c).enable = true) :
    requestTemplate c m (i.val + 1) p =
      (p.setChannel c { p.channel c with requested := some i }, [.raise c, .respond m .done []]) := by
  simp [requestTemplate, indexOf_val, h, answered]

theorem requestTemplate_disabled {c : Channel} (i : Fin 24) (h : (p.channel c).enable = false) :
    requestTemplate c m (i.val + 1) p = (p, [.raise c, .respond m (.refused .state) []]) := by
  simp [requestTemplate, indexOf_val, h]

theorem requestRestoreGroup_out {n : Nat} (h : n = 0 ∨ 16 < n) : requestRestoreGroup m n p = refused m .row p := by
  simp only [requestRestoreGroup, grpOfNumber, indexOf_out 16 n h]

theorem requestRestoreGroup_unmarked {g : Grp} (h : (p.group g).mark = false) :
    requestRestoreGroup m (g.val + 1) p = refused m .state p := by
  simp [requestRestoreGroup, grpOfNumber, indexOf_val, h]

theorem requestRestoreGroup_disabled {g : Grp} (h : (p.group g).mark = true)
    (he : (p.channel (.restore (p.groupBus g))).enable = false) :
    requestRestoreGroup m (g.val + 1) p =
      (p, [.raise (.restore (p.groupBus g)), .respond m (.refused .state) []]) := by
  simp [requestRestoreGroup, grpOfNumber, indexOf_val, h, he]

theorem requestRestoreGroup_enabled {g : Grp} (h : (p.group g).mark = true)
    (he : (p.channel (.restore (p.groupBus g))).enable = true) :
    requestRestoreGroup m (g.val + 1) p =
      (p.setStage (p.groupBus g) { p.stage (p.groupBus g) with requested := some g },
        [.raise (.restore (p.groupBus g)), .respond m .done []]) := by
  simp [requestRestoreGroup, grpOfNumber, indexOf_val, h, he, answered]

end

/-- TRANSFER and TEST, told apart by the channel that they raise (R86). -/
theorem exec_templateRequest (m : Sender) (s : State) (n : Nat) {c : Channel} (hc : c = .operator ∨ c = .test) :
    ∃ r, exec (if c = .operator then .transfer m n else .test m n) s = .next (s.requestEvent m r) ∧
      ∀ p, carryOut m r p = requestTemplate c m n p := by
  obtain rfl | rfl := hc
  · exact ⟨.transfer n, rfl, fun _ => rfl⟩
  · exact ⟨.test n, rfl, fun _ => rfl⟩

/-- Settles O41: each request is refused, or raises its channel, which is tallied or pending. -/
theorem requestsRaiseTheirChannels : Obligations.RequestsRaiseTheirChannels := by
  intro m s n hs hr hd p
  refine ⟨fun hn => ⟨?_, ?_⟩, ?_, fun hn => ?_, ?_⟩
  · exact requestEvent_refused hs hr (requestTemplate_out hn)
  · exact requestEvent_refused hs hr (requestTemplate_out hn)
  · rintro i c rfl hc
    obtain ⟨r, hexec, hcarry⟩ := exec_templateRequest m s (i.val + 1) hc
    rw [hexec]
    split
    · next he => exact requestEvent_raise hs hr hd ((hcarry p).trans (requestTemplate_enabled i he))
    · next he => exact requestEvent_raise hs hr hd ((hcarry p).trans (requestTemplate_disabled i (by simpa using he)))
  · exact requestEvent_refused hs hr (requestRestoreGroup_out hn)
  · rintro g rfl
    dsimp only
    split
    · next hmark => exact requestEvent_refused hs hr (requestRestoreGroup_unmarked hmark)
    · next hmark =>
      rw [Bool.not_eq_false] at hmark
      split
      · next he => exact requestEvent_raise hs hr hd (requestRestoreGroup_enabled hmark he)
      · next he => exact requestEvent_raise hs hr hd (requestRestoreGroup_disabled hmark (by simpa using he))

end Sys2Proof.Machine
end

section
/-! PROOF. O42: CONFIRM releases a HELD channel; SET_CHANNEL sets three fields. -/

namespace Sys2Proof.Machine

section

variable {m : Sender} {p : Part}

theorem requestConfirm_out {n : Nat} (h : 11 < n) : requestConfirm m n p = refused m .row p := by
  simp only [requestConfirm, Channel.ofNumber_out h]

theorem requestConfirm_not_held {c : Channel} (h : (p.channel c).engaged ≠ .held) :
    requestConfirm m c.idx.val p = refused m .state p := by
  simp only [requestConfirm, Channel.ofNumber_idx, if_neg h]

theorem requestConfirm_held {c : Channel} (h : (p.channel c).engaged = .held) :
    requestConfirm m c.idx.val p = (p.engage c .no, [.judgeTake, .respond m .done []]) := by
  simp only [requestConfirm, Channel.ofNumber_idx, if_pos h, answered, List.singleton_append]

theorem requestSetChannel_out {n : Nat} {enable mask : Bool} {mode : CompletionMode} (h : 11 < n) :
    requestSetChannel m n enable mask mode p = refused m .row p := by
  simp only [requestSetChannel, Channel.ofNumber_out h]

theorem requestSetChannel_set {c : Channel} {enable mask : Bool} {mode : CompletionMode} :
    requestSetChannel m c.idx.val enable mask mode p =
      (p.setChannel c ((p.channel c).withSettings enable mask mode),
        [.judgeTake, .judgePreempt, .respond m .done []]) := by
  simp only [requestSetChannel, Channel.ofNumber_idx, answered, List.cons_append, List.nil_append]

/-- With no channel pending, none is eligible, and no take is made (R83, R88). -/
theorem judgeTake_none_pending (h : ∀ c, (p.channel c).pending = false) : runTask .judgeTake p = (p, []) := by
  have hhighest : p.highest = none := by
    rw [Part.highest, List.find?_eq_none]
    intro c _
    simp [Part.eligible, h c]
  simp [runTask, judgeTake, Part.takeable, hhighest]

end

/-- Settles O42: each request is refused, or replaces its channel's record, after which no take is made. -/
theorem confirmAndSetChannel : Obligations.ConfirmAndSetChannel := by
  refine ⟨fun m s hs hr => ⟨fun n hn => ?_, fun c => ⟨fun hc => ?_, fun hc hpending => ?_⟩⟩,
    fun m s enable mask mode hs hr => ⟨fun n hn => ?_, fun c hd => ?_⟩⟩
  · exact requestEvent_refused hs hr (requestConfirm_out hn)
  · exact requestEvent_refused hs hr (requestConfirm_not_held (p := s.part.countRequest) hc)
  · have hrests : (s.part.countRequest.engage c .no).linkRests := hr
    refine congrArg Host.Outcome.next (requestEvent_of_drains hs (n := 4) ?_ (by decide))
    rw [carryOut, requestConfirm_held (p := s.part.countRequest) hc]
    refine drains_single (judgeTake_none_pending fun d => ?_) (drains_respond hrests m .done [])
    rw [Part.engage, Part.channel_setChannel]
    split
    · exact hpending c
    · exact hpending d
  · exact requestEvent_refused hs hr (requestSetChannel_out hn)
  · have ⟨hmode, hidle, _⟩ := hd
    have hrests : (s.part.countRequest.setChannel c ((s.part.channel c).withSettings enable mask mode)).linkRests := hr
    refine congrArg Host.Outcome.next (requestEvent_of_drains hs (n := 5) ?_ (by decide))
    rw [carryOut, requestSetChannel_set]
    exact drains_single (judgeTake_halted hmode)
      (drains_single (judgePreempt_idle hidle) (drains_respond hrests m .done []))

end Sys2Proof.Machine
end

section
/-! PROOF. O56: a list is judged in order up to the first template that is chosen. -/

namespace Sys2Proof.Machine

section

variable (p : Part)

/-- NOT_JUDGED is no result of the tests of R103: it is said of templates that they did not come to (R110). -/
theorem Part.judgeTemplate_ne_notJudged (t : Template) : (p.judgeTemplate t).1 ≠ .notJudged := by
  fun_cases Part.judgeTemplate p t
  case case8 => dsimp only; split <;> decide
  all_goals decide

variable {p} {n : Fin 24} {rest : List (Fin 24)}

theorem Part.judgeList_of_chosen (h : (p.judgeTemplate (p.template n)).1 = .chosen) :
    p.judgeList (n :: rest) =
      ⟨n, .chosen, (p.judgeTemplate (p.template n)).2⟩ :: rest.map (fun m => ⟨m, .notJudged, none⟩) := by
  simp only [Part.judgeList, h, if_true]

theorem Part.judgeList_of_not_chosen (h : (p.judgeTemplate (p.template n)).1 ≠ .chosen) :
    p.judgeList (n :: rest) =
      ⟨n, (p.judgeTemplate (p.template n)).1, (p.judgeTemplate (p.template n)).2⟩ :: p.judgeList rest := by
  simp only [Part.judgeList, if_neg h]

variable (p)

theorem Part.judgeList_templates (numbers : List (Fin 24)) : (p.judgeList numbers).map (·.template) = numbers := by
  induction numbers with
  | nil => rfl
  | cons n rest ih =>
    by_cases h : (p.judgeTemplate (p.template n)).1 = .chosen
    · simp [Part.judgeList_of_chosen h, Function.comp_def]
    · simp [Part.judgeList_of_not_chosen h, ih]

theorem Part.chosenOf_judgeList (numbers : List (Fin 24)) :
    chosenOf (p.judgeList numbers) =
      numbers.find? (fun n => (p.judgeTemplate (p.template n)).1 == .chosen) := by
  induction numbers with
  | nil => rfl
  | cons n rest ih =>
    by_cases h : (p.judgeTemplate (p.template n)).1 = .chosen
    · simp [Part.judgeList_of_chosen h, chosenOf, h]
    · rw [List.find?_cons_of_neg (by simpa using h), ← ih]
      simp [Part.judgeList_of_not_chosen h, chosenOf, h]

/-- A template goes without judgement just when one before it in the list is chosen (R102, R110). -/
theorem Part.judgeList_notJudged_iff (numbers : List (Fin 24)) (i : Nat) (c : Candidate)
    (hc : (p.judgeList numbers)[i]? = some c) :
    c.result = .notJudged ↔
      ∃ j < i, ∃ n, numbers[j]? = some n ∧ (p.judgeTemplate (p.template n)).1 = .chosen := by
  induction numbers generalizing i with
  | nil => simp [Part.judgeList] at hc
  | cons n rest ih =>
    by_cases h : (p.judgeTemplate (p.template n)).1 = .chosen
    · rw [Part.judgeList_of_chosen h] at hc
      cases i with
      | zero =>
        obtain rfl : _ = c := by simpa using hc
        simp
      | succ i =>
        obtain ⟨m, -, rfl⟩ : ∃ m, rest[i]? = some m ∧ _ = c := by simpa using hc
        simpa using ⟨0, by omega, n, rfl, h⟩
    · rw [Part.judgeList_of_not_chosen h] at hc
      cases i with
      | zero =>
        obtain rfl : _ = c := by simpa using hc
        simp [p.judgeTemplate_ne_notJudged]
      | succ i =>
        rw [ih i hc, Nat.exists_lt_succ_left]
        simp [h]

end

/-- Settles O56: a list's first template is chosen, and the rest goes without judgement, or the rest is judged. -/
theorem theFirstFitTemplateIsChosen : Obligations.TheFirstFitTemplateIsChosen := fun p numbers =>
  ⟨p.judgeList_templates numbers, p.chosenOf_judgeList numbers, p.judgeList_notJudged_iff numbers⟩

end Sys2Proof.Machine
end

section
/-! PROOF. O57: the capacity fit sheds no more than it must. -/

namespace Sys2Proof.Machine

section

variable {demand : Grp → Nat} {capacity d : Nat} {g : Grp} {rest done : List Grp}

/-- The groups shed so far stand in front of those that are shed from here on. -/
theorem fitShed_done :
    fitShed demand capacity rest done d =
      { fitShed demand capacity rest [] d with shed := done ++ (fitShed demand capacity rest [] d).shed } := by
  induction rest generalizing done d with
  | nil => simp [fitShed]
  | cons g rest ih =>
    by_cases h : d ≤ capacity
    · simp [fitShed, h]
    · simp only [fitShed, if_neg h]
      rw [ih, ih (done := [] ++ [g])]
      simp

theorem fitShed_nil : fitShed demand capacity [] [] d = ⟨d ≤ capacity, [], d⟩ := rfl

theorem fitShed_of_le (h : d ≤ capacity) : fitShed demand capacity rest [] d = ⟨true, [], d⟩ := by
  cases rest with
  | nil => simp [fitShed, h]
  | cons g rest => simp [fitShed, h]

theorem fitShed_of_lt (h : capacity < d) :
    fitShed demand capacity (g :: rest) [] d =
      { fitShed demand capacity rest [] (d - demand g) with
        shed := g :: (fitShed demand capacity rest [] (d - demand g)).shed } := by
  rw [fitShed, if_neg (Nat.not_le.mpr h), fitShed_done]
  rfl

variable (demand capacity d rest)

theorem fitShed_shed_prefix : (fitShed demand capacity rest [] d).shed <+: rest := by
  induction rest generalizing d with
  | nil => exact List.nil_prefix
  | cons g rest ih =>
    obtain h | h := Nat.lt_or_ge capacity d
    · rw [fitShed_of_lt h]
      exact List.cons_prefix_cons.mpr ⟨rfl, ih _⟩
    · rw [fitShed_of_le h]
      exact List.nil_prefix

theorem fitShed_final :
    (fitShed demand capacity rest [] d).final =
      d - ((fitShed demand capacity rest [] d).shed.map demand).sum := by
  induction rest generalizing d with
  | nil => rfl
  | cons g rest ih =>
    obtain h | h := Nat.lt_or_ge capacity d
    · rw [fitShed_of_lt h, List.map_cons, List.sum_cons, ← Nat.sub_sub]
      exact ih _
    · rw [fitShed_of_le h]
      rfl

theorem fitShed_pass_iff :
    (fitShed demand capacity rest [] d).pass = true ↔ (fitShed demand capacity rest [] d).final ≤ capacity := by
  induction rest generalizing d with
  | nil => exact decide_eq_true_iff
  | cons g rest ih =>
    obtain h | h := Nat.lt_or_ge capacity d
    · rw [fitShed_of_lt h]
      exact ih _
    · simp [fitShed_of_le h, h]

theorem fitShed_shed_of_not_pass (hfail : (fitShed demand capacity rest [] d).pass = false) :
    (fitShed demand capacity rest [] d).shed = rest := by
  induction rest generalizing d with
  | nil => rfl
  | cons g rest ih =>
    obtain h | h := Nat.lt_or_ge capacity d
    · rw [fitShed_of_lt h] at hfail ⊢
      exact congrArg (g :: ·) (ih _ hfail)
    · simp [fitShed_of_le h] at hfail

/-- The last group was shed because the groups before it left too much. -/
theorem lt_of_fitShed_shed (front : List Grp) (last : Grp)
    (hshed : (fitShed demand capacity rest [] d).shed = front ++ [last]) :
    capacity < d - (front.map demand).sum := by
  induction rest generalizing d front with
  | nil => simp [fitShed_nil] at hshed
  | cons g rest ih =>
    obtain h | h := Nat.lt_or_ge capacity d
    · rw [fitShed_of_lt h] at hshed
      cases front with
      | nil => simpa using h
      | cons f front =>
        obtain ⟨rfl, hrest⟩ : g = f ∧ _ := by simpa using hshed
        rw [List.map_cons, List.sum_cons, ← Nat.sub_sub]
        exact ih _ front hrest
    · simp [fitShed_of_le h] at hshed

end

/-- Settles O57: group by group, the walk over the ranked groups stops where the demand left is within the capacity. -/
theorem capacityFitShedsNoMoreThanNeeded : Obligations.CapacityFitShedsNoMoreThanNeeded := by
  intro p buses c fit counted sheddable total
  exact ⟨fitShed_shed_prefix _ c total sheddable, fitShed_final _ c total sheddable,
    fitShed_pass_iff _ c total sheddable, fitShed_shed_of_not_pass _ c total sheddable,
    lt_of_fitShed_shed _ c total sheddable⟩

end Sys2Proof.Machine
end

section
/-! SUPPORT. The record of the plan held, in which its steps and its end are written: how a step is passed and the next
begins, and how a plan with nothing outstanding fails (R116, R117, R129). -/

namespace Sys2Proof.Machine

/-! ### The record of the plan held (R116) -/

/-- `r` is the current plan record and that of the plan held, and the previous record is another plan's. -/
def Part.keepsRecord (p : Part) (r : PlanRecord) : Prop :=
  p.currentPlan = some r ∧ r.serial = p.exec.serial ∧ ∀ r', p.previousPlan = some r' → r'.serial ≠ p.exec.serial

/-- A plan record with a step's outcome and the time it ended. -/
def PlanRecord.endStep (r : PlanRecord) (step : Nat) (o : StepOutcome) (now : Nat) : PlanRecord :=
  r.updateStep step (fun x => { x with outcome := some o, ended := some now })

/-- A plan record with a step that runs. -/
def PlanRecord.runStep (r : PlanRecord) (step : Nat) : PlanRecord :=
  r.updateStep step (fun x => { x with outcome := none })

/-- The part once its current step has ended, its record being `r` before (R116, R117). -/
def Part.stepEnded (p : Part) (o : StepOutcome) (r : PlanRecord) : Part :=
  { p with
    exec := { p.exec with phase := none, timer := .stopped }
    currentPlan := some (r.endStep p.exec.step o p.now) }

/-- The part once the next step is the current one, its record being `r` before (R116, R117). -/
def Part.stepNext (p : Part) (r : PlanRecord) : Part :=
  { p with
    exec := { p.exec with step := p.exec.step + 1, phase := none, stepFailed := none, stepCut := false }
    currentPlan := some (r.runStep (p.exec.step + 1)) }

/-- The part once its current step waits on its timer for a time in ms (R114, R123). -/
def Part.stepTiming (p : Part) (time : Nat) : Part :=
  p.setExec { p.exec with phase := some .timer, timer := .running 0 (time * 1000) }

section

variable {p : Part} {r : PlanRecord} {pl : Plan}

theorem Part.planSound.keepsRecord (h : p.planSound pl) :
    ∃ r, p.keepsRecord r ∧ r.steps.length = pl.steps.length := by
  obtain ⟨_, _, ⟨r, hr, hserial, hlen⟩, hprev⟩ := h
  exact ⟨r, ⟨hr, hserial, hprev⟩, hlen⟩

theorem Part.stepEnded_keepsRecord (h : p.keepsRecord r) (o : StepOutcome) :
    (p.stepEnded o r).keepsRecord (r.endStep p.exec.step o p.now) := by
  obtain ⟨_, hserial, hprev⟩ := h
  exact ⟨rfl, hserial, hprev⟩

theorem PlanRecord.endStep_length (r : PlanRecord) (step : Nat) (o : StepOutcome) (now : Nat) :
    (r.endStep step o now).steps.length = r.steps.length := List.length_modify ..

theorem PlanRecord.endStep_step (r : PlanRecord) (step : Nat) (o : StepOutcome) (now : Nat) :
    (r.endStep step o now).steps[step - 1]? =
      r.steps[step - 1]?.map (fun x => { x with outcome := some o, ended := some now }) :=
  List.getElem?_modify_eq ..

/-- A change of the record of the plan held leaves the previous record as it is. -/
theorem Part.updateRecord_of_keepsRecord (h : p.keepsRecord r) (f : PlanRecord → PlanRecord) :
    p.updateRecord p.exec.serial f = { p with currentPlan := some (f r) } := by
  obtain ⟨hr, hserial, hprev⟩ := h
  have hp : p.previousPlan.map (fun r => if r.serial = p.exec.serial then f r else r) = p.previousPlan := by
    cases hq : p.previousPlan with
    | none => rfl
    | some r' => rw [Option.map_some, if_neg (hprev r' hq)]
  simp [Part.updateRecord, hp, hr, hserial]

theorem endStep_of_keepsRecord (h : p.keepsRecord r) (o : StepOutcome) : endStep o p = p.stepEnded o r :=
  congrArg (fun q : Part => q.setExec { q.exec with phase := none, timer := .stopped })
    (Part.updateRecord_of_keepsRecord h fun r => r.endStep p.exec.step o p.now)

/-! ### A step is passed, and the next begins (R117, R123) -/

theorem nextStep_goesOn (hrun : p.exec.state = .running) (hdec : p.exec.decided = false) (hpl : p.exec.plan = some pl)
    (hlen : p.exec.step < pl.steps.length) (h : p.keepsRecord r) :
    nextStep p.exec.serial p.exec.step p = (p.stepNext r, [.beginStep p.exec.serial (p.exec.step + 1)]) := by
  rw [nextStep, if_pos ⟨hrun, hdec, rfl, rfl⟩]
  split
  · next hno => simp [hpl] at hno
  · next pl' hpl' =>
    obtain rfl : pl = pl' := Option.some.inj (hpl.symm.trans hpl')
    rw [if_neg (by omega)]
    have hu := Part.updateRecord_of_keepsRecord
      (p := p.setExec { p.exec with step := p.exec.step + 1, phase := none, stepFailed := none, stepCut := false }) h
      (fun r => r.runStep (p.exec.step + 1))
    exact congrArg (·, _) hu

theorem beginStep_dwell {serial step time : Nat} (hrun : p.stepRuns serial step = true) (hphase : p.exec.phase = none)
    (hstep : p.currentStep = some (.dwell time)) :
    beginStep serial step p =
      if time = 0 then passStep .done p
      else (p.stepTiming time, []) := by
  rw [beginStep, if_pos (by simp [hrun, hphase]), hstep]
  rfl

theorem Part.current_of_stepRuns {serial step : Nat} (h : p.stepRuns serial step = true) :
    p.exec.serial = serial ∧ p.exec.step = step := by
  simp only [Part.stepRuns, Bool.and_eq_true, beq_iff_eq] at h
  obtain ⟨⟨⟨_, hserial⟩, hstep⟩, _⟩ := h
  exact ⟨hserial, hstep⟩

theorem Part.timerExpires_of_timerOut {step : Step} (h : p.timerOut step) : p.timerExpires = true := by
  obtain ⟨hrun, _, hphase, hdue, _⟩ := h
  simp [Part.timerExpires, hrun, hphase, hdue]

/-- The next step runs once it is the current one (R114, R116). -/
theorem Part.stepRuns_stepNext (hrun : p.exec.state = .running) (hdec : p.exec.decided = false)
    (h : p.keepsRecord r) (hlen : p.exec.step < r.steps.length) :
    (p.stepNext r).stepRuns p.exec.serial (p.exec.step + 1) = true := by
  obtain ⟨_, hserial, _⟩ := h
  have hrec : (p.stepNext r).stepRecord = some { r.steps[p.exec.step] with outcome := none } := by
    simp [Part.stepRecord, Part.stepNext, PlanRecord.runStep, PlanRecord.updateStep, hserial, hlen]
  rw [Part.stepRuns, Part.stepOpen, hrec]
  simp [Part.stepNext, hrun, hdec]

/-- The step passed and the next one waiting on its timer is what `movedOn` says (R114, R116, R117). -/
theorem Part.movedOn_stepNext (hone : 1 ≤ p.exec.step) (hlen : p.exec.step < r.steps.length) (o : StepOutcome)
    (next : Nat) :
    p.movedOn o (next * 1000)
      (((p.stepEnded o r).stepNext (r.endStep p.exec.step o p.now)).stepTiming next) := by
  have hne : p.exec.step ≠ p.exec.step - 1 := by omega
  have hlt : p.exec.step - 1 < r.steps.length := by omega
  refine ⟨rfl, rfl, ⟨{ r.steps[p.exec.step - 1] with outcome := some o, ended := some p.now }, ?_, rfl, rfl⟩,
    { r.steps[p.exec.step] with outcome := none }, ?_, rfl⟩
  · simp [Part.planStep, Part.stepTiming, Part.stepNext, Part.stepEnded, PlanRecord.runStep, PlanRecord.endStep,
      PlanRecord.updateStep, hne, hlt]
  · simp [Part.planStep, Part.stepTiming, Part.stepNext, Part.stepEnded, PlanRecord.runStep, PlanRecord.endStep,
      PlanRecord.updateStep, hne.symm, hlen]

/-- A step that is passed hands off the next, a DWELL, which then waits on its timer (R117, R123). -/
theorem drains_passStep {step : Step} {next : Nat} (h : p.timerOut step) (hpl : p.exec.plan = some pl)
    (hnext : pl.steps[p.exec.step]? = some (.dwell next)) (hne : next ≠ 0) (hsound : p.planSound pl)
    (o : StepOutcome) :
    ∃ q, Drains (passStep o p).2 (passStep o p).1 q 2 ∧ p.movedOn o (next * 1000) q := by
  obtain ⟨r, hkeeps, hrlen⟩ := hsound.keepsRecord
  obtain ⟨hone, _⟩ := hsound
  obtain ⟨hrun, hdec, _⟩ := h
  have hlt : p.exec.step < pl.steps.length := (List.getElem?_eq_some_iff.mp hnext).1
  have hended := Part.stepEnded_keepsRecord hkeeps o
  have hgo := nextStep_goesOn (p := p.stepEnded o r) hrun hdec hpl hlt hended
  have hruns := Part.stepRuns_stepNext (p := p.stepEnded o r) hrun hdec hended
    (hlt.trans_eq (hrlen.symm.trans (r.endStep_length ..).symm))
  have hbegin := beginStep_dwell hruns rfl (time := next)
    (by simpa [Part.currentStep, Part.stepNext, Part.stepEnded, hpl] using hnext)
  rw [if_neg hne] at hbegin
  refine ⟨_, ?_, Part.movedOn_stepNext hone (hrlen ▸ hlt) o next⟩
  have hpass : passStep o p = (p.stepEnded o r, [.nextStep p.exec.serial p.exec.step]) :=
    congrArg (·, _) (endStep_of_keepsRecord hkeeps o)
  rw [hpass]
  refine drains_cons ?_
  rw [show runTask (.nextStep p.exec.serial p.exec.step) (p.stepEnded o r) = _ from hgo]
  exact drains_single hbegin (drains_nil _)

/-- An expiry that passes a step after which a DWELL begins (R117, R123). -/
theorem event_of_passStep {s : State} {t : Task} {step : Step} {next : Nat} {o : StepOutcome} (hs : s.calm)
    (ht : runTask t s.part = passStep o s.part) (h : s.part.timerOut step) (hpl : s.part.exec.plan = some pl)
    (hnext : pl.steps[s.part.exec.step]? = some (.dwell next)) (hne : next ≠ 0) (hsound : s.part.planSound pl) :
    ∃ u : State, Host.Outcome.next (s.event t) = (.next u : Out) ∧ u.work = [] ∧ u.pending = s.pending ∧
      s.part.movedOn o (next * 1000) u.part := by
  obtain ⟨q, hd, hmoved⟩ := drains_passStep h hpl hnext hne hsound o
  refine ⟨{ s with part := q }, congrArg Host.Outcome.next (event_of_drains hs (n := 3) (drains_cons ?_) (by decide)),
    hs, rfl, hmoved⟩
  rw [ht, List.append_nil]
  exact hd

/-! ### A plan with nothing outstanding fails (R129) -/

/-- A plan record with a step that failed, and the plan with it. -/
def PlanRecord.fail (r : PlanRecord) (step : Nat) (reason : Reason) (now : Nat) : PlanRecord :=
  { r.endStep step (.failed reason) now with outcome := some (.failed reason) }

/-- The part once its plan has failed in the current step, its record being `r` before (R116, R129). -/
def Part.planFailed (p : Part) (reason : Reason) (r : PlanRecord) : Part :=
  { p with
    exec := { p.exec with state := .aborting, decided := true, phase := none, timer := .stopped }
    currentPlan := some (r.fail p.exec.step reason p.now) }

theorem cancelQueued_of_nothing_outstanding (h : p.exec.outstanding = []) : cancelQueued p = p := by
  have hex : { p.exec with outstanding := [], stepCut := p.exec.stepCut } = p.exec := by rw [← h]
  simp only [cancelQueued, h, List.filter_nil, List.foldl_nil, List.isEmpty_nil, Bool.not_true, Bool.or_false, hex]
  rfl

theorem failNow_eq (reason : Reason) (hout : p.exec.outstanding = []) (h : p.keepsRecord r) :
    failNow reason p =
      (p.planFailed reason r, [.planEnded (.failed reason)] ++ stepFault reason p ++ [.windDown]) := by
  have hu := Part.updateRecord_of_keepsRecord (Part.stepEnded_keepsRecord h (.failed reason))
    (fun r => { r with outcome := some (.failed reason) })
  have hcancel : cancelQueued (p.stepEnded (.failed reason) r) = p.stepEnded (.failed reason) r :=
    cancelQueued_of_nothing_outstanding hout
  rw [failNow, endStep_of_keepsRecord h, hcancel]
  exact congrArg (fun q : Part => (q.setExec { q.exec with state := .aborting, decided := true }, _)) hu

/-- The fault of a step that fails with a reason that the executor records (R129). -/
theorem stepFault_eq {reason : Reason} {kind : FaultKind} {step : Step} (hk : faultKindOf reason = some kind)
    (hpl : p.exec.plan = some pl) (hstep : p.currentStep = some step) :
    stepFault reason p =
      [.recordFault (stepNames step
        { blankFault kind with
          channel := some pl.channel
          template := some pl.template
          step := some p.exec.step
          snapshots := stepSnapshots step reason p })] := by
  simp only [stepFault, hk, hpl, hstep]

theorem loadChannel_of_ne {c : Channel} (h : ∀ x, c ≠ .shed x ∧ c ≠ .restore x) : loadChannel c = false := by
  cases c
  case shed x => exact absurd rfl (h x).1
  case restore x => exact absurd rfl (h x).2
  all_goals rfl

/-- The end of a plan reaches the channel that holds the executor (R90). -/
theorem planEnded_eq {c : Channel} (o : PlanOutcome) (hrun : p.runningChannel = some c)
    (hc : loadChannel c = false) :
    planEnded o p = (p.setChannel c { p.channel c with outcome := some (channelOutcomeOf o) }, []) := by
  rw [planEnded, hrun]
  cases c
  case shed => cases hc
  case restore => cases hc
  all_goals rfl

/-- The part once the failure of its plan has reached its channel and the Fault Log (R90, R129, R193). -/
def Part.failureTold (p : Part) (c : Channel) (reason : Reason) (r : PlanRecord) (f : FaultRecord) : Part :=
  ((p.planFailed reason r).setChannel c { p.channel c with outcome := some (.failed reason) }).recordFault f

/-- A plan that fails tells its channel and the Fault Log, and then winds down (R129). -/
theorem drains_failNow {c : Channel} {reason : Reason} {f : FaultRecord} {q : Part} {n : Nat}
    (hout : p.exec.outstanding = []) (h : p.keepsRecord r) (hrun : p.runningChannel = some c)
    (hc : loadChannel c = false) (hf : stepFault reason p = [.recordFault f])
    (hd : Drains [.windDown] (p.failureTold c reason r f) q n) :
    Drains (failNow reason p).2 (failNow reason p).1 q (n + 2) := by
  rw [failNow_eq reason hout h, hf]
  exact drains_single (planEnded_eq (p := p.planFailed reason r) (.failed reason) hrun hc) (drains_single rfl hd)

/-- A plan does not end while a guard runs (R131). -/
theorem windDown_of_guard (h : p.guard.state ≠ .absent) : windDown p = (p, []) := by
  rw [windDown, if_neg]
  simp [Part.guardRuns, h]

end

end Sys2Proof.Machine
end

section
/-! PROOF. O48: a DWELL step waits its time. -/

namespace Sys2Proof.Machine

theorem dwellExpiry_timerOut {p : Part} {time : Nat} (h : p.timerOut (.dwell time)) :
    dwellExpiry p = passStep .done p := by
  have hexp := Part.timerExpires_of_timerOut h
  obtain ⟨_, _, _, _, hstep, _⟩ := h
  simp [dwellExpiry, hstep, hexp]

/-- Settles O48: the step is timed as it begins, and its expiry passes it. -/
theorem dwellStepsWaitTheirTime : Obligations.DwellStepsWaitTheirTime := by
  refine ⟨fun p serial step time hruns hphase hstep => ?_, fun p time h => dwellExpiry_timerOut h,
    fun s time next pl hs h hpl hnext hne hsound => ?_⟩
  · obtain ⟨rfl, rfl⟩ := Part.current_of_stepRuns hruns
    exact beginStep_dwell hruns hphase hstep
  · exact event_of_passStep hs (dwellExpiry_timerOut h) h hpl hnext hne hsound

end Sys2Proof.Machine
end

section
/-! PROOF. O49: the timers of WAITDEAD and WAITHEALTHY steps skip the step or fail the plan. -/

namespace Sys2Proof.Machine

theorem waitdeadTimeout_timerOut {p : Part} {pt : Point} {limit : Nat} {goOn : Bool}
    (h : p.timerOut (.waitDead pt limit goOn)) :
    waitdeadTimeout p = if goOn then passStep .skipped p else failNow .waitTimeout p := by
  have hexp := Part.timerExpires_of_timerOut h
  obtain ⟨_, _, _, _, hstep, _⟩ := h
  simp [waitdeadTimeout, hstep, hexp]

theorem waithealthyTimeout_timerOut {p : Part} {i : Src} {limit : Nat} (h : p.timerOut (.waitHealthy i limit)) :
    waithealthyTimeout p = failNow .waitTimeout p := by
  have hexp := Part.timerExpires_of_timerOut h
  obtain ⟨_, _, _, _, hstep, _⟩ := h
  simp [waithealthyTimeout, hstep, hexp]

theorem waitdeadTimeout_not_due {p : Part} (h : p.exec.timer.due = false) : waitdeadTimeout p = (p, []) := by
  have hexp : p.timerExpires = false := by simp [Part.timerExpires, h]
  rw [waitdeadTimeout]
  split
  · rw [hexp]
    rfl
  · rfl

/-- The event of a timer that fails its plan while a guard runs (R129, R131). -/
theorem event_of_failNow_guarded {s : State} {t : Task} {c : Channel} {r : PlanRecord} {f : FaultRecord} (hs : s.calm)
    (ht : runTask t s.part = failNow .waitTimeout s.part) (hout : s.part.exec.outstanding = [])
    (h : s.part.keepsRecord r) (hrun : s.part.runningChannel = some c) (hc : loadChannel c = false)
    (hguard : s.part.guard.state ≠ .absent) (hf : stepFault .waitTimeout s.part = [.recordFault f]) :
    s.event t = { s with part := s.part.failureTold c .waitTimeout r f } := by
  refine event_of_drains hs (n := 4) (drains_cons ?_) (by decide)
  rw [ht, List.append_nil]
  exact drains_failNow hout h hrun hc hf
    (drains_single (windDown_of_guard (p := s.part.failureTold c .waitTimeout r f) hguard) (drains_nil _))

/-- Settles O49: a step that goes on is passed SKIPPED; any other fails its plan, which a running guard keeps from
winding down. -/
theorem waitTimersSkipOrFail : Obligations.WaitTimersSkipOrFail := by
  refine ⟨⟨fun s hs hd => congrArg Host.Outcome.next (event_of_no_task hs (waitdeadTimeout_not_due hd)),
    fun s pt limit next pl hs h hpl hnext hne hsound =>
      event_of_passStep hs (waitdeadTimeout_timerOut h) h hpl hnext hne hsound⟩, ?_⟩
  intro s c pl hs hpl hsound hrun hne hguard hout failed
  have hc : loadChannel c = false := loadChannel_of_ne hne
  obtain ⟨r, hkeeps, hrlen⟩ := hsound.keepsRecord
  obtain ⟨hone, hle, _⟩ := hsound
  have hlt : s.part.exec.step - 1 < r.steps.length := by omega
  have told (f : FaultRecord) :
      failed f
        { s with
          part := s.part.failureTold c .waitTimeout r
            { f with channel := some pl.channel, template := some pl.template, step := some s.part.exec.step } } := by
    refine ⟨hs, rfl, rfl,
      ⟨{ r.steps[s.part.exec.step - 1] with outcome := some (.failed .waitTimeout), ended := some s.part.now },
        ?_, rfl, rfl⟩, rfl, rfl⟩
    exact (r.endStep_step ..).trans (by rw [List.getElem?_eq_getElem hlt]; rfl)
  refine ⟨fun i limit h => ?_, fun pt limit h => ?_⟩
  · have ⟨_, _, _, _, hstep, _⟩ := h
    exact ⟨_, congrArg Host.Outcome.next (event_of_failNow_guarded hs (waithealthyTimeout_timerOut h) hout hkeeps hrun
      hc hguard (stepFault_eq rfl hpl hstep)), told { blankFault .waitTimeout with source := some i }⟩
  · have ⟨_, _, _, _, hstep, _⟩ := h
    exact ⟨_, congrArg Host.Outcome.next (event_of_failNow_guarded hs (waitdeadTimeout_timerOut h) hout hkeeps hrun
      hc hguard (stepFault_eq rfl hpl hstep)), told { blankFault .waitTimeout with snapshots := s.part.snapshots pt }⟩

end Sys2Proof.Machine
end

section
/-! PROOF. O50: a guard's expiry sends its trip in the same event. -/

namespace Sys2Proof.Machine

/-! ### The trip entry (R136, R158, R159) -/

/-- The OPEN of the guard's target that its expiry inserts, which is due at once. -/
def Part.tripEntry (p : Part) : Entry :=
  { num := p.nextNumber (.breaker p.guard.target)
    target := .breaker p.guard.target
    action := .opn
    executeAt := 0
    owner := .guard p.guard.serial
    sent := false
    insertedAt := p.now
    horizon := p.schedule.settings.horizon
    dueSince := some p.now
    sendStamp := none
    late := false
    deadline := .stopped }

/-- The part with the guard TRIPPING and its trip alone in the schedule. -/
def Part.tripping (p : Part) : Part :=
  { p with
    schedule :=
      { p.schedule with
        entries := [p.tripEntry]
        next := p.nextNumber (.breaker p.guard.target) + 1
        tallies := { p.schedule.tallies with inserted := tick16 p.schedule.tallies.inserted } }
    guard :=
      { p.guard with
        state := .tripping
        timer := .stopped
        trip := some (p.nextNumber (.breaker p.guard.target)) } }

section

variable {p : Part}

theorem guardExpiry_not_due (h : p.guard.timer.due = false) : guardExpiry p = (p, []) := by simp [guardExpiry, h]

theorem guardExpiry_due (hdue : p.guard.timer.due = true) (hrun : p.guard.state = .running)
    (he : p.schedule.entries = []) :
    guardExpiry p = (p.tripping, [.handOver, .guardTripped, .guardFailPlan]) := by
  have hinsert : p.insertGuard p.guard.target p.guard.serial =
      (p.setSchedule p.tripping.schedule, p.nextNumber (.breaker p.guard.target), []) := by
    simp [Part.insertGuard, he, scheduleRoom, Part.accept, placeEntry, Part.withDue, Part.isDue, Part.tripping,
      Part.tripEntry]
  rw [guardExpiry, if_pos ⟨hrun, hdue⟩, hinsert]
  rfl

theorem tripping_refreshDue : p.tripping.refreshDue = p.tripping := by
  refine Part.refreshDue_of_entries fun e he => ?_
  obtain rfl : e = p.tripEntry := by simpa [Part.tripping] using he
  have hdue : p.tripping.isDue p.tripEntry = true := decide_eq_true (Nat.zero_le _)
  rw [Part.withDue, if_neg (by exact Bool.false_ne_true), if_pos hdue]
  rfl

/-- The trip is judged at once, ahead of the Command frames that wait in slots, and nothing blocks it (R77, R162,
R163). -/
theorem handOver_tripping : handOver p.tripping = sendEntry p.tripEntry (takeBack p.tripping) := by
  have hg : p.tripping.sendLine.find? (·.isGuard) = some p.tripEntry := rfl
  rw [handOver, tripping_refreshDue]
  simp only [hg]
  rfl

theorem waitingCopies_length : p.waitingCopies.length ≤ 2 := by
  unfold Part.waitingCopies
  split
  case h_4 => split <;> simp
  all_goals simp

end

/-! ### The copies taken back are offered again (R163) -/

/-- `q` differs from `p` at most in its ports and in the copies held, of which there are no more. -/
def Part.offersTo (p q : Part) : Prop :=
  q = { p with link := q.link, schedule := { p.schedule with held := q.schedule.held } } ∧
    q.schedule.held.length ≤ p.schedule.held.length

theorem Part.offersTo_refl (p : Part) : p.offersTo p := ⟨rfl, le_rfl⟩

theorem Part.offersTo.trans {p q r : Part} (h : p.offersTo q) (h' : q.offersTo r) : p.offersTo r := by
  obtain ⟨hq, hlen⟩ := h
  obtain ⟨hr, hlen'⟩ := h'
  refine ⟨?_, hlen'.trans hlen⟩
  rw [hr, hq]

/-- With every entry SENT and at most `m` copies held, the hand-offs of `ts` come to an end within a bound, and change
the ports and the copies held only. -/
def Offers (m : Nat) (ts : List Task) (bound : Nat) : Prop :=
  ∀ p : Part, (∀ e ∈ p.schedule.entries, e.sent = true) → p.schedule.held.length ≤ m →
    ∃ q n, n ≤ bound ∧ Drains ts p q n ∧ p.offersTo q

section

variable {m b c : Nat} {ts us : List Task}

theorem offers_append (h : Offers m ts b) (h' : Offers m us c) : Offers m (ts ++ us) (b + c) := by
  intro p hsent hheld
  obtain ⟨q, n, hn, hd, hq⟩ := h p hsent hheld
  have hqsent : ∀ e ∈ q.schedule.entries, e.sent = true := by
    rw [hq.1]
    exact hsent
  obtain ⟨r, k, hk, hd', hr⟩ := h' q hqsent (hq.2.trans hheld)
  exact ⟨r, n + k, by omega, drains_append hd hd', hq.trans hr⟩

/-- A port's arbiter takes a frame, and tells the Command Scheduler at most (R6, R162). -/
theorem offers_egress (h : Offers m [.handOver] b) (k : Port) : Offers m [.egress k] (b + 1) := by
  intro p hsent hheld
  by_cases hf : (p.port k).up = true ∧ (p.port k).sending = none
  · obtain ⟨hup, hfree⟩ := hf
    obtain ⟨ts, he, rfl | rfl⟩ := egress_free hup hfree
    · exact ⟨_, 1, by omega, drains_single he (drains_nil _), rfl, le_rfl⟩
    · obtain ⟨q, n, hn, hd, hq⟩ := h (p.setPort k (p.port k).sendNext) hsent hheld
      refine ⟨q, n + 1, by omega, drains_cons ?_, Part.offersTo.trans ⟨rfl, le_rfl⟩ hq⟩
      rw [runTask, he]
      exact hd
  · have he : egress k p = (p, []) := if_neg (by simpa using hf)
    exact ⟨p, 1, by omega, drains_single he (drains_nil p), p.offersTo_refl⟩

/-- A Command frame that egress accepted goes out where it can, and a hand-over is judged (R162). -/
theorem offers_sent (h : Offers m [.handOver] b) : Offers m (bothEgress ++ [.handOver]) (b + 1 + (b + 1) + b) :=
  offers_append (offers_append (offers_egress h .one) (offers_egress h .two)) h

end

theorem offerCopy_eq (f : CommandFrame) (k : Port) (p : Part) : ∃ l, offerCopy f k p = { p with link := l } := by
  unfold offerCopy
  split
  · exact ⟨_, placeCommand_eq f k p⟩
  · exact ⟨_, rfl⟩

theorem offerHeld_eq (c : HeldCopy) (p : Part) : ∃ l, offerHeld c p = { p with link := l } := by
  obtain ⟨l, hl⟩ := offerCopy_eq c.frame .one p
  obtain ⟨l', hl'⟩ := offerCopy_eq c.frame .two { p with link := l }
  obtain ⟨l'', hl''⟩ := offerCopy_eq c.frame .two p
  unfold offerHeld
  rw [hl]
  cases c.one <;> cases c.two
  · exact ⟨_, rfl⟩
  · exact ⟨_, hl''⟩
  · exact ⟨_, rfl⟩
  · exact ⟨_, hl'⟩

/-- With every entry SENT a hand-over waits for the slots, or offers the first of the copies held (R163). -/
theorem handOver_held {p : Part} (hsent : ∀ e ∈ p.schedule.entries, e.sent = true) :
    handOver p = (p, []) ∨
      ∃ c rest l, p.schedule.held = c :: rest ∧
        handOver p =
          ({ p with link := l, schedule := { p.schedule with held := rest } }, bothEgress ++ [.handOver]) := by
  have hr : p.refreshDue = p := Part.refreshDue_of_entries fun e he => by simp [Part.withDue, hsent e he]
  have hl : p.sendLine = [] := by
    rw [Part.sendLine, List.filter_eq_nil_iff]
    exact fun e he => by simp [hsent e he]
  cases hh : p.schedule.held with
  | nil => exact .inl (handOver_of_allSent ⟨hsent, hh⟩)
  | cons c rest =>
    cases hf : p.slotsFree with
    | false => exact .inl (by simp [handOver, hr, hl, hf])
    | true =>
      obtain ⟨l, ho⟩ := offerHeld_eq c (p.setSchedule { p.schedule with held := rest })
      exact .inr ⟨c, rest, l, rfl, by simp [handOver, hr, hl, hf, hh, ho]⟩

/-- How many hand-offs a hand-over with so many copies held comes to at most. -/
def handOverBound : Nat → Nat
  | 0 => 1
  | m + 1 => 3 * handOverBound m + 3

theorem offers_handOver : ∀ m, Offers m [.handOver] (handOverBound m)
  | 0 => fun p hsent hheld =>
    ⟨p, 1, le_rfl, drains_handOver ⟨hsent, List.length_eq_zero_iff.mp (Nat.le_zero.mp hheld)⟩, p.offersTo_refl⟩
  | m + 1 => by
    intro p hsent hheld
    obtain h | ⟨c, rest, l, hcopies, h⟩ := handOver_held hsent
    · exact ⟨p, 1, by simp only [handOverBound]; omega, drains_single h (drains_nil p), p.offersTo_refl⟩
    · rw [hcopies, List.length_cons] at hheld
      obtain ⟨q, n, hn, hd, hq⟩ := offers_sent (offers_handOver m)
        { p with link := l, schedule := { p.schedule with held := rest } } hsent (by exact Nat.le_of_succ_le_succ hheld)
      refine ⟨q, n + 1, by simp only [handOverBound]; omega, drains_cons ?_,
        Part.offersTo.trans ⟨rfl, by simp [hcopies]⟩ hq⟩
      rw [runTask, h, List.append_nil]
      exact hd

/-! ### What sending a command leaves as it is -/

/-- The plan, the channels, the readings, station time, the guard and the Fault Log. -/
def Part.untouched (p : Part) :
    ExecRecord × Vector ChannelRecord 12 × Vector PointRecord 6 × Nat × GuardRecord × FaultLog :=
  (p.exec, p.channels, p.points, p.now, p.guard, p.management.faults)

section

variable {p : Part}

theorem Part.raiseFlag_untouched (f : Flag) : (p.raiseFlag f).untouched = p.untouched := by
  unfold Part.raiseFlag
  dsimp only
  split <;> rfl

theorem countOperation_untouched (target : Target) : (countOperation target p).untouched = p.untouched := by
  cases target with
  | source _ => rfl
  | breaker b =>
    simp only [countOperation, Part.judgeService]
    split
    · exact Part.raiseFlag_untouched ..
    · rfl

/-- A breaker's entry that stands alone is SENT, in the schedule and with no effect on the `untouched` (R162, R164). -/
theorem sendEntry_untouched {e : Entry} {b : Breaker} (he : p.schedule.entries = [e]) (hd : e.dueSince = some p.now)
    (ht : e.target = .breaker b) :
    ∃ q, sendEntry e p = (q, bothEgress ++ [.handOver]) ∧ q.schedule = (p.entrySent e p.link).schedule ∧
      q.untouched = p.untouched := by
  obtain ⟨q, hsend, hsched, _⟩ := sendEntry_breaker he hd ht
  obtain ⟨l, halone, _⟩ := sendEntry_alone he hd
  obtain ⟨a, t, hattempt⟩ := attemptSent_eq e.num (countOperation e.target (p.entrySent e l))
  have hq : q = attemptSent e.num (countOperation e.target (p.entrySent e l)) :=
    congrArg Prod.fst (hsend.symm.trans halone)
  refine ⟨q, hsend, hsched, ?_⟩
  rw [hq, hattempt]
  exact countOperation_untouched (p := p.entrySent e l) e.target

theorem Part.offersTo.untouched {q : Part} (h : p.offersTo q) : q.untouched = p.untouched := by
  rw [h.1]
  rfl

/-! ### The expiry (R136) -/

/-- The fault of a guard that trips (R136). -/
def Part.tripFault (p : Part) : FaultRecord :=
  { blankFault .parallelTimeout with
    channel := some p.guard.channel
    template := some p.guard.template
    breaker := some p.guard.target
    bus := some p.guard.firstWatched
    snapshots := p.snapshots p.guard.reference ++ p.snapshots p.guard.incoming }

/-- The trip is SENT within the event, whatever waits in the slots (R136, R162, R163). -/
theorem drains_handOver_tripping (hh : p.schedule.held = []) :
    ∃ q n, n ≤ 66 ∧ Drains [.handOver] p.tripping q n ∧
      q.schedule.entries = [p.sentEntry p.tripEntry] ∧ q.untouched = p.tripping.untouched := by
  obtain ⟨r, hsend, hsched, hr⟩ := sendEntry_untouched (p := takeBack p.tripping) (e := p.tripEntry) rfl rfl rfl
  have hentries : r.schedule.entries = [p.sentEntry p.tripEntry] := congrArg Schedule.entries hsched
  have hheld : r.schedule.held = p.tripping.waitingCopies :=
    (congrArg Schedule.held hsched).trans ((congrArg (p.tripping.waitingCopies ++ ·) hh).trans (List.append_nil _))
  obtain ⟨q, n, hn, hd, hq⟩ := offers_sent (offers_handOver 2) r (by simp [hentries, Part.sentEntry])
    (hheld ▸ waitingCopies_length)
  refine ⟨q, n + 1, by simp only [handOverBound] at hn; omega, drains_cons ?_, ?_, hq.untouched.trans hr⟩
  · rw [runTask, handOver_tripping, hsend, List.append_nil]
    exact hd
  · rw [hq.1]
    exact hentries

theorem guardFailPlan_of_not_running (h : p.exec.state ≠ .running) : guardFailPlan p = (p, []) := if_neg h

/-- The expiry of a RUNNING guard's timer while no plan runs (R136). -/
theorem drains_guardExpiry (hdue : p.guard.timer.due = true) (hrun : p.guard.state = .running)
    (hempty : p.scheduleEmpty) (hplan : p.exec.state ≠ .running) :
    ∃ q n, n ≤ 69 ∧ Drains [.guardExpiry] p q n ∧ q.guard = p.tripping.guard ∧
      q.schedule.entries = [p.sentEntry p.tripEntry] ∧
      q.management.faults = p.management.faults.record { p.tripFault with time := p.now } ∧
      q.exec = p.exec ∧ q.channels = p.channels := by
  obtain ⟨he, hh⟩ := hempty
  obtain ⟨q, n, hn, hd, hentries, hq⟩ := drains_handOver_tripping hh
  simp only [Part.untouched, Prod.mk.injEq] at hq
  obtain ⟨hexec, hchannels, hpoints, hnow, hguard, hfaults⟩ := hq
  have hfault : q.tripFault = p.tripFault := by
    rw [Part.tripFault, hguard, Part.snapshots_of_points hpoints, Part.snapshots_of_points hpoints]
    rfl
  refine ⟨(guardTripped q).1, n + (1 + 1) + 1, by omega, drains_cons ?_, hguard, hentries, ?_, hexec, hchannels⟩
  · rw [runTask, guardExpiry_due hdue hrun he, List.append_nil]
    refine drains_append (ts := [.handOver]) hd (drains_single rfl (drains_single ?_ (drains_nil _)))
    exact guardFailPlan_of_not_running (p := (guardTripped q).1) (by exact hexec ▸ hplan)
  · change q.management.faults.record { q.tripFault with time := q.now } = _
    rw [hfault, hfaults, hnow]
    rfl

end

/-- Settles O50: the trip is inserted into the empty schedule and SENT ahead of what waits in the slots; then the fault
is recorded. -/
theorem guardExpirySendsTheTrip : Obligations.GuardExpirySendsTheTrip := by
  intro s hs
  refine ⟨fun h => congrArg Host.Outcome.next (event_of_no_task hs (guardExpiry_not_due h)), ?_⟩
  intro hdue hrun hempty hplan g num
  obtain ⟨q, n, hn, hd, hguard, hentries, hfaults, hexec, hchannels⟩ := drains_guardExpiry hdue hrun hempty hplan
  have : 69 < Config.eventBound := by decide
  exact ⟨{ s with part := q }, congrArg Host.Outcome.next (event_of_drains hs hd (by omega)), hguard,
    ⟨_, hentries, rfl, rfl, rfl, rfl, rfl, rfl, rfl⟩, hfaults, hexec, hchannels⟩

end Sys2Proof.Machine
end

section
/-! PROOF. O51: the time limit of an attempt fails the attempt and its plan. -/

namespace Sys2Proof.Machine

section

variable {p : Part} {r : PlanRecord}

/-! ### The attempt (R121, R151, R152) -/

theorem syncLimitExpiry_not_due (h : p.syncTimer.due = false) : syncLimitExpiry p = (p, []) :=
  if_neg (ne_true_of_eq_false h)

/-- The time limit of a WAITING attempt with no entry (R152). -/
theorem syncLimitExpiry_waiting {a : AttemptRecord} (hdue : p.syncTimer.due = true) (ha : p.attempt = some a)
    (hw : a.state = .waiting) (he : a.entry = none) :
    syncLimitExpiry p = (finishAttempt a .failed (some .syncTimeout) p, [.attemptDone]) := by
  have ho : a.open = true := by simp [AttemptRecord.open, hw]
  simp only [syncLimitExpiry, hdue, ha, ho, if_true, breakOff, cancelAttemptEntry, he]
  rfl

/-- An attempt that FAILED fails its step and its plan (R121). -/
theorem attemptDone_failed {a : AttemptRecord} {b : Breaker} {reference incoming : Point} {set : Fin 4}
    {reason : Reason} (ha : p.attempt = some a) (hstate : a.state = .failed) (hreason : a.reason = some reason)
    (hstep : p.currentStep = some (.sync b reference incoming set)) (hphase : p.exec.phase = some .attempt)
    (hrun : p.exec.state = .running) : attemptDone p = failNow reason p := by
  simp [attemptDone, ha, hstate, hreason, hstep, hphase, hrun]

/-! ### The executor and the arbiter are done with the plan (R82, R91, R94, R131) -/

/-- The part once its plan has ended, its record being `r` before, with the bus records `v` (R72, R131). -/
def Part.planOver (p : Part) (r : PlanRecord) (v : PerBus BusRecord) : Part :=
  { p with
    exec := ExecRecord.init p.exec.serial
    currentPlan := some { r with ended := some p.now }
    buses := v }

theorem monitorIdle_eq (p : Part) : ∃ v, monitorIdle p = { p with buses := v } := by
  simp only [monitorIdle]
  split <;> split <;> exact ⟨_, rfl⟩

/-- A decided plan with nothing outstanding and no guard becomes IDLE (R131). -/
theorem windDown_ends (hdec : p.exec.decided = true) (hout : p.exec.outstanding = []) (hguard : p.guard.state = .absent)
    (hphase : p.exec.phase = none) (h : p.keepsRecord r) :
    ∃ v, windDown p = (p.planOver r v, [.load, .arbiterIdle]) := by
  obtain ⟨v, hv⟩ := monitorIdle_eq
    { p with exec := ExecRecord.init p.exec.serial, currentPlan := some { r with ended := some p.now } }
  refine ⟨v, ?_⟩
  rw [windDown, if_pos (by simp [hdec, hout, hphase, Part.guardRuns, hguard])]
  have hu := Part.updateRecord_of_keepsRecord h (fun r => { r with ended := some p.now })
  dsimp only
  rw [hu]
  exact congrArg (·, _) hv

/-- Nothing but what the Request Arbiter keeps differs, and no channel's enable or last outcome does. -/
def Part.sameButArbiter (p q : Part) : Prop :=
  q = { p with arbiter := q.arbiter, channels := q.channels } ∧
    ∀ c, (q.channel c).enable = (p.channel c).enable ∧ (q.channel c).outcome = (p.channel c).outcome

theorem Part.sameButArbiter_refl (p : Part) : p.sameButArbiter p := ⟨rfl, fun _ => ⟨rfl, rfl⟩⟩

theorem Part.sameButArbiter_engage (p : Part) (c : Channel) (e : Engaged) : p.sameButArbiter (p.engage c e) := by
  refine ⟨rfl, fun d => ?_⟩
  rw [Part.engage, Part.channel_setChannel]
  split
  · next h => exact h ▸ ⟨rfl, rfl⟩
  · exact ⟨rfl, rfl⟩

theorem Part.sameButArbiter_enterHalted (p : Part) : p.sameButArbiter (enterHalted p) :=
  ⟨rfl, fun c => by simp [enterHalted, Part.channel]⟩

theorem endEngagement_sameButArbiter (c : Channel) (p : Part) :
    ∃ q, endEngagement c p = (q, [.judgeTake]) ∧ p.sameButArbiter q := by
  unfold endEngagement
  split
  · exact ⟨_, rfl, p.sameButArbiter_engage c _⟩
  · exact ⟨p, rfl, p.sameButArbiter_refl⟩

/-- With every channel's enable OFF and no preemption ordered, an IDLE executor leaves nothing to take (R82, R91). -/
theorem drains_arbiterIdle (hp : p.disabled) (habort : p.arbiter.abort = .none) :
    ∃ q n, n ≤ 3 ∧ Drains [.arbiterIdle] p q n ∧ p.sameButArbiter q := by
  have htake {q : Part} (hq : p.sameButArbiter q) : Drains [.judgeTake] q q 1 :=
    drains_single (judgeTake_disabled fun c => (hq.2 c).1.trans (hp c)) (drains_nil q)
  by_cases hhalt : p.arbiter.halt = true
  · have hidle : runTask .arbiterIdle p = (enterHalted p, []) := by rw [runTask, arbiterIdle, if_pos hhalt]
    exact ⟨_, 1, by omega, drains_single hidle (drains_nil _), p.sameButArbiter_enterHalted⟩
  · cases hc : p.runningChannel with
    | none =>
      have hidle : runTask .arbiterIdle p = (p, [.judgeTake]) := by simp [runTask, arbiterIdle, hhalt, habort, hc]
      refine ⟨p, 2, by omega, drains_cons ?_, p.sameButArbiter_refl⟩
      rw [hidle]
      exact htake p.sameButArbiter_refl
    | some c =>
      have hidle : runTask .arbiterIdle p = (p, [.endEngagement c]) := by simp [runTask, arbiterIdle, hhalt, habort, hc]
      obtain ⟨q, hend, hq⟩ := endEngagement_sameButArbiter c p
      refine ⟨q, 3, le_rfl, drains_cons ?_, hq⟩
      rw [hidle]
      refine drains_cons ?_
      rw [runTask, hend]
      exact htake hq

/-- A plan that ends with nothing outstanding, no guard and every channel's enable OFF leaves the part IDLE: the Load
Manager and the Request Arbiter alone go on from there (R82, R91, R131). -/
theorem drains_windDown (hdec : p.exec.decided = true) (hout : p.exec.outstanding = [])
    (hguard : p.guard.state = .absent) (hphase : p.exec.phase = none) (h : p.keepsRecord r) (hp : p.disabled)
    (habort : p.arbiter.abort = .none) :
    ∃ v u q n, n ≤ 14 ∧ Drains [.windDown] p q n ∧ (p.planOver r v).sameButLoad u ∧ u.sameButArbiter q := by
  obtain ⟨v, hends⟩ := windDown_ends hdec hout hguard hphase h
  have hover : (p.planOver r v).disabled := hp
  obtain ⟨u, i, hi, hload, hsame⟩ := settles_load_disabled hover
  obtain ⟨q, j, hj, hidle, hq⟩ := drains_arbiterIdle (Part.disabled_of_sameButLoad hsame hover)
    (by rw [hsame.1]; exact habort)
  refine ⟨v, u, q, i + j + 1, by omega, drains_cons ?_, hsame, hq⟩
  rw [runTask, hends]
  exact drains_append (ts := [.load]) (us := [.arbiterIdle]) hload hidle

/-- What the end of a failed plan, whose record was `r`, leaves of `p` and makes of it (R90, R129, R131). -/
def Part.failedOver (p : Part) (c : Channel) (reason : Reason) (r : PlanRecord) (f : FaultRecord) (q : Part) : Prop :=
  q.exec = ExecRecord.init p.exec.serial ∧
    q.currentPlan = some { r.fail p.exec.step reason p.now with ended := some p.now } ∧
    (q.channel c).outcome = some (.failed reason) ∧
    q.management.faults = p.management.faults.record { f with time := p.now } ∧
    q.attempt = p.attempt ∧ q.syncTimer = p.syncTimer ∧ q.schedule = p.schedule ∧ q.breakers = p.breakers

theorem Part.failedOver_of_same {c : Channel} {reason : Reason} {f : FaultRecord} {v : PerBus BusRecord} {u q : Part}
    (hc : loadChannel c = false)
    (hu : ((p.failureTold c reason r f).planOver (r.fail p.exec.step reason p.now) v).sameButLoad u)
    (hq : u.sameButArbiter q) : p.failedOver c reason r f q := by
  obtain ⟨hu, hchannels, _⟩ := hu
  obtain ⟨hqu, houtcome⟩ := hq
  have hout : ((p.failureTold c reason r f).channel c).outcome = some (.failed reason) := by
    change (((p.planFailed reason r).setChannel c _).channel c).outcome = _
    rw [Part.channel_setChannel, if_pos rfl]
  have hlast : (q.channel c).outcome = (u.channel c).outcome := (houtcome c).2
  refine ⟨?_, ?_, hlast.trans ((congrArg ChannelRecord.outcome (hchannels c hc)).trans hout), ?_, ?_, ?_, ?_, ?_⟩
  all_goals
    rw [hqu, hu]
    rfl

/-- A plan that fails with nothing outstanding, no guard and every channel's enable OFF is over within the event (R129,
R131). -/
theorem drains_failNow_over {c : Channel} {reason : Reason} {f : FaultRecord} (hout : p.exec.outstanding = [])
    (h : p.keepsRecord r) (hrun : p.runningChannel = some c) (hc : loadChannel c = false)
    (hf : stepFault reason p = [.recordFault f]) (hguard : p.guard.state = .absent) (hp : p.disabled)
    (habort : p.arbiter.abort = .none) :
    ∃ q n, n ≤ 16 ∧ Drains (failNow reason p).2 (failNow reason p).1 q n ∧ p.failedOver c reason r f q := by
  obtain ⟨_, hserial, hprev⟩ := id h
  have hdisabled : (p.failureTold c reason r f).disabled := fun d => by
    change (((p.planFailed reason r).setChannel c _).channel d).enable = false
    rw [Part.channel_setChannel]
    split
    · exact hp c
    · exact hp d
  obtain ⟨v, u, q, n, hn, hd, hsame, hq⟩ :=
    drains_windDown (p := p.failureTold c reason r f) rfl hout hguard rfl ⟨rfl, hserial, hprev⟩ hdisabled habort
  exact ⟨q, n + 2, by omega, drains_failNow hout h hrun hc hf hd, Part.failedOver_of_same hc hsame hq⟩

end

/-- Settles O51: the attempt ends, its step and its plan fail with it, and the plan winds down. -/
theorem syncTimeLimitFailsTheAttempt : Obligations.SyncTimeLimitFailsTheAttempt := by
  intro s hs
  refine ⟨fun h => congrArg Host.Outcome.next (event_of_no_task hs (syncLimitExpiry_not_due h)), ?_⟩
  intro a pl hdue ha hw he hclosed hguard hpl hsound hrun hphase hstep hout hchannel habort
  obtain ⟨r, hkeeps, _⟩ := hsound.keepsRecord
  obtain ⟨q, n, hn, hd, hexec, hplan, hop, hfaults, hattempt, htimer, hschedule, hbreakers⟩ :=
    drains_failNow_over (p := finishAttempt a .failed (some .syncTimeout) s.part) (reason := .syncTimeout) hout hkeeps
      hchannel rfl (stepFault_eq rfl hpl hstep) hguard (fun c => (hclosed c).1) habort
  refine ⟨{ s with part := q },
    congrArg Host.Outcome.next (event_of_drains hs (n := n + 1 + 1) (drains_cons ?_) ?_), hs, hattempt, htimer,
    congrArg ExecRecord.state hexec, ?_, hop, hfaults, hschedule, hbreakers⟩
  · rw [runTask, syncLimitExpiry_waiting hdue ha hw he]
    refine drains_cons ?_
    rw [runTask, attemptDone_failed (p := finishAttempt a .failed (some .syncTimeout) s.part) rfl rfl rfl hstep hphase
      hrun]
    simpa using hd
  · have : 18 < Config.eventBound := by decide
    omega
  · simp only [Part.planOutcome, hplan]
    rfl

end Sys2Proof.Machine
end

section
/-! PROOF. O54, O55: the angle difference of a pair, and the close instant of a slipping one. -/

namespace Sys2Proof.Machine

/-! ### The angle difference and its signed form (R145) -/

theorem angleDifference_lt (reference incoming : Nat) : angleDifference reference incoming < 3600 := by
  unfold angleDifference
  omega

theorem angleDifference_add_mod (reference : Nat) {incoming : Nat} (h : incoming < 3600) :
    (angleDifference reference incoming + reference) % 3600 = incoming := by
  unfold angleDifference
  omega

theorem signedAngle_of_le {delta : Nat} (h : delta ≤ 1799) : signedAngle delta = delta := if_pos h

theorem signedAngle_of_lt {delta : Nat} (h : 1799 < delta) : signedAngle delta = (delta : Int) - 3600 :=
  if_neg (Nat.not_le.2 h)

theorem signedAngle_bounds {delta : Nat} (h : delta < 3600) : -1800 ≤ signedAngle delta ∧ signedAngle delta ≤ 1799 := by
  rcases lt_or_ge 1799 delta with hhigh | hlow
  · rw [signedAngle_of_lt hhigh]
    omega
  · rw [signedAngle_of_le hlow]
    omega

/-- An incoming side `lag` behind the reference has `-lag` for its signed difference, up to half a turn. -/
theorem signedAngle_eq_neg_iff {reference incoming lag : Nat} (hr : reference < 3600) (hi : incoming < 3600)
    (hpos : 0 < lag) (hlag : lag ≤ 1800) :
    signedAngle (angleDifference reference incoming) = -(lag : Int) ↔ (incoming + lag) % 3600 = reference := by
  have hlt := angleDifference_lt reference incoming
  have hturn := angleDifference_add_mod reference hi
  rcases lt_or_ge 1799 (angleDifference reference incoming) with hhigh | hlow
  · rw [signedAngle_of_lt hhigh]
    omega
  · rw [signedAngle_of_le hlow]
    omega

/-! ### The stages of an evaluation from the fifth on (R145–R148) -/

section

variable (e : Evaluation) (k : SyncSettings) (i : EvalInputs)

@[simp] theorem Evaluation.judged_delta (tc : Int) : (e.judged k tc).delta = e.delta := rfl
@[simp] theorem Evaluation.judged_tc (tc : Int) : (e.judged k tc).tc = some tc := rfl

theorem Evaluation.standingCase_of_le {signed : Int} (h : signed.natAbs ≤ k.angleMax) :
    e.standingCase k i signed = { e with standing := some true }.judged k ((i.now + i.minLead : Nat) : Int) :=
  if_pos h

theorem Evaluation.standingCase_of_lt {signed : Int} (h : k.angleMax < signed.natAbs) :
    e.standingCase k i signed = { e with standing := some true, result := .notReady .angle } :=
  if_neg (Nat.not_le.2 h)

@[simp] theorem Evaluation.standingCase_delta (signed : Int) : (e.standingCase k i signed).delta = e.delta := by
  rcases lt_or_ge k.angleMax signed.natAbs with h | h
  · rw [e.standingCase_of_lt k i h]
  · rw [e.standingCase_of_le k i h, judged_delta]

@[simp] theorem Evaluation.slippingCase_delta (t0 delta : Nat) (slip : Int) :
    (e.slippingCase k i t0 delta slip).delta = e.delta := rfl

@[simp] theorem Evaluation.slippingCase_travel (t0 delta : Nat) (slip : Int) :
    (e.slippingCase k i t0 delta slip).travel = some (if 0 < slip then (3600 - delta) % 3600 else delta) := rfl

end

/-- An evaluation that passes the stages of voltage, slip and direction keeps the signed difference, and goes on to the
standing or the slipping case with it (R144–R147). -/
theorem evaluatePair_reaches_fifth_stage {k : SyncSettings} {i : EvalInputs} {r q : Reading} {t0 δ : Nat} {slip : Int}
    (ht0 : t0 = max r.stamp q.stamp) (hδ : δ = angleDifference (alignedAngle r t0) (alignedAngle q t0))
    (hslip : slip = (q.freq : Int) - (r.freq : Int)) (hdV : ((q.magA : Int) - (r.magA : Int)).natAbs ≤ k.dVmax)
    (hmax : slip.natAbs ≤ k.slipMax) (hdir : k.direction = .incomingFaster → 0 < slip) :
    ∃ e : Evaluation, e.delta = some (signedAngle δ) ∧
      evaluatePair k i r q =
        if slip.natAbs < k.slipMin then e.standingCase k i (signedAngle δ) else e.slippingCase k i t0 δ slip := by
  subst hδ hslip ht0
  have hforward : ¬ (k.direction = .incomingFaster ∧ (q.freq : Int) - (r.freq : Int) ≤ 0) :=
    fun ⟨hfaster, hle⟩ => absurd (hdir hfaster) (Int.not_lt.2 hle)
  refine ⟨_, ?_, (if_neg (Nat.not_lt.2 hdV)).trans ((if_neg (Nat.not_lt.2 hmax)).trans (if_neg hforward))⟩
  rfl

/-- Settles O54: an evaluation that reaches the fifth stage goes on to the case its slip calls for. -/
theorem angleDifferenceIsSigned : Obligations.AngleDifferenceIsSigned := by
  refine ⟨fun θR θI hR hI => ?_, fun k i r q t0 δ slip ht0 hδ hslip hdV hmax hdir => ?_⟩
  · have hlt := angleDifference_lt θR θI
    obtain ⟨hlow, hhigh⟩ := signedAngle_bounds hlt
    exact ⟨hlt, angleDifference_add_mod θR hI, hlow, hhigh, signedAngle_of_le, signedAngle_of_lt,
      signedAngle_eq_neg_iff (lag := 300) hR hI (by decide) (by decide)⟩
  · obtain ⟨e, hdelta, heval⟩ := evaluatePair_reaches_fifth_stage (i := i) ht0 hδ hslip hdV hmax hdir
    rw [heval]
    refine ⟨?_, fun hstand hfar => ?_, fun hstand hnear => ?_, fun hmoves hpos => ?_, fun hmoves hneg => ?_⟩
    · split <;> simpa using hdelta
    · rw [if_pos hstand, e.standingCase_of_lt k i hfar]
    · rw [if_pos hstand, e.standingCase_of_le k i hnear, Evaluation.judged_tc]
    · rw [if_neg (Nat.not_lt.2 hmoves), Evaluation.slippingCase_travel, if_pos hpos]
    · rw [if_neg (Nat.not_lt.2 hmoves), Evaluation.slippingCase_travel, if_neg (Int.lt_asymm hneg)]

/-! ### The close instant of a slipping pair (R147) -/

section

variable {tc period earliest : Int}

theorem nextCycle_of_le (h : earliest ≤ tc) : nextCycle tc period earliest = tc := if_pos h

theorem nextCycle_of_lt (h : tc < earliest) :
    nextCycle tc period earliest = tc + (earliest - tc + period - 1) / period * period := by
  rw [nextCycle, if_neg (Int.not_le.2 h), Int.mul_comm]

/-- The quotient of `nextCycle` is rounded up. -/
theorem roundedUp_le_iff (hp : 0 < period) (d n : Int) : (d + period - 1) / period ≤ n ↔ d ≤ n * period := by
  rw [← Int.lt_add_one_iff, Int.ediv_lt_iff_lt_mul hp, Int.add_mul]
  omega

/-- The close instant is one of the crossings. -/
theorem exists_nextCycle_eq (hp : 0 < period) : ∃ n : Nat, nextCycle tc period earliest = tc + n * period := by
  rcases lt_or_ge tc earliest with h | h
  · have hq : 0 ≤ (earliest - tc + period - 1) / period := Int.ediv_nonneg (by omega) hp.le
    obtain ⟨n, hn⟩ := Int.eq_ofNat_of_zero_le hq
    exact ⟨n, by rw [nextCycle_of_lt h, hn]⟩
  · exact ⟨0, by rw [nextCycle_of_le h]; simp⟩

/-- The crossings not before the close instant are those that leave the lead. -/
theorem nextCycle_le_iff (hp : 0 < period) (n : Nat) :
    nextCycle tc period earliest ≤ tc + n * period ↔ earliest ≤ tc + n * period := by
  rcases lt_or_ge tc earliest with h | h
  · rw [nextCycle_of_lt h, Int.add_le_add_iff_left, Int.mul_le_mul_iff_of_pos_right hp, roundedUp_le_iff hp]
    omega
  · have hn : 0 ≤ (n : Int) * period := Int.mul_nonneg n.cast_nonneg hp.le
    rw [nextCycle_of_le h]
    omega

end

/-- Settles O55: the close instant is a crossing, and is not after a crossing just when that one leaves the lead. -/
theorem nextCycleIsTheFirstInTime : Obligations.NextCycleIsTheFirstInTime := by
  intro tc period earliest hp
  obtain ⟨n, hn⟩ := exists_nextCycle_eq (tc := tc) (earliest := earliest) hp
  have hfrom : 0 ≤ (n : Int) * period := Int.mul_nonneg n.cast_nonneg hp.le
  have hlead : earliest ≤ tc + n * period := (nextCycle_le_iff hp n).1 hn.le
  exact ⟨by rw [hn]; exact hlead, by rw [hn]; omega, ⟨n, hn⟩, fun m => (nextCycle_le_iff hp m).2⟩

end Sys2Proof.Machine
end

section
/-! SUPPORT. The entries of the schedule as its operations find and leave them: placing, moving, taking off and judging
what is due (R155, R158–R161). -/

namespace Sys2Proof.Machine

section

variable (p : Part) (e : Entry)

/-- Judging whether an entry is due changes its due since at most (R161). -/
theorem Part.withDue_eq : ∃ d, p.withDue e = { e with dueSince := d } := by
  unfold Part.withDue
  split
  · exact ⟨_, rfl⟩
  · split <;> exact ⟨_, rfl⟩

@[simp] theorem Part.withDue_num : (p.withDue e).num = e.num := by
  obtain ⟨d, h⟩ := p.withDue_eq e
  rw [h]

@[simp] theorem Part.withDue_executeAt : (p.withDue e).executeAt = e.executeAt := by
  obtain ⟨d, h⟩ := p.withDue_eq e
  rw [h]

@[simp] theorem Part.withDue_owner : (p.withDue e).owner = e.owner := by
  obtain ⟨d, h⟩ := p.withDue_eq e
  rw [h]

@[simp] theorem Part.withDue_isGuard : (p.withDue e).isGuard = e.isGuard := by simp [Entry.isGuard]

theorem placeEntry_perm : ∀ es : List Entry, (placeEntry e es).Perm (e :: es)
  | [] => .refl _
  | h :: t => by
    unfold placeEntry
    split
    · exact ((placeEntry_perm t).cons h).trans (.swap ..)
    · exact .refl _

theorem mem_placeEntry (es : List Entry) : e ∈ placeEntry e es :=
  (placeEntry_perm e es).mem_iff.mpr (List.mem_cons_self ..)

end

section

variable {p : Part} {num : CmdNum} {e : Entry}

theorem Part.entry_eq_none : p.entry num = none ↔ ∀ e ∈ p.schedule.entries, e.num ≠ num := by
  simp [Part.entry, List.find?_eq_none]

theorem Part.num_of_entry (h : p.entry num = some e) : e.num = num := by
  simpa using List.find?_some h

theorem Part.mem_of_entry (h : p.entry num = some e) : e ∈ p.schedule.entries := List.mem_of_find?_eq_some h

/-- An insertion that is accepted is given room and an execute-at (R158). -/
theorem Part.insertEntry_ok {q : Part} {target : Target} {action : Action} {owner : Owner} {timed : Option Nat}
    (h : p.insertEntry target action owner timed = .ok (q, num)) :
    p.schedule.entries.length < scheduleRoom ∧ ∃ t, p.accept target action owner t = (q, num) := by
  unfold Part.insertEntry at h
  split at h
  · cases h
  · next t _ =>
    split at h
    · cases h
    · next hroom => exact ⟨Nat.lt_of_not_le hroom, t, Except.ok.inj h⟩

theorem Part.executeAtFor_some {t t' : Nat} (h : p.executeAtFor (some t) = .ok t') : t' = t := by
  simp only [Part.executeAtFor] at h
  split at h <;> cases h
  rfl

/-- An entry that is retimed is QUEUED, and takes the place of its new execute-at under its number (R160). -/
theorem Part.retimeEntry_some {q : Part} {t : Nat} (h : p.retimeEntry num t = some q) :
    ∃ e ∈ p.schedule.entries, e.num = num ∧ ∃ e' : Entry, e'.num = num ∧ e'.executeAt = t ∧
      q = p.setEntries (placeEntry e' (p.schedule.entries.filter (fun x => x.num != num))) := by
  unfold Part.retimeEntry at h
  split at h
  · next e t' he ht =>
    split at h <;> cases h
    cases Part.executeAtFor_some ht
    have hnum := Part.num_of_entry he
    exact ⟨e, Part.mem_of_entry he, hnum, _, by simpa using hnum, by simp, rfl⟩
  · cases h

end

end Sys2Proof.Machine
end

section
/-! PROOF. O53: an accepted entry is given the first command number that is free. -/

namespace Sys2Proof.Machine

section

variable {p : Part} {target : Target} {n : CmdNum}

/-- A number is free where no entry holds it and the target's latest echo does not show it (R157). -/
theorem Part.numberFree_iff :
    p.numberFree target n = true ↔
      (∀ e ∈ p.schedule.entries, e.num ≠ n) ∧ ∀ b, target = .breaker b → ∀ r, (p.breaker b).echo ≠ some (n, r) := by
  rw [Part.numberFree.eq_def, Bool.and_eq_true, Option.isNone_iff_eq_none, Part.entry_eq_none]
  refine and_congr_right fun _ => ?_
  cases target with
  | source s => simp
  | breaker b => rcases (p.breaker b).echo with _ | ⟨m, r⟩ <;> simp

/-- The numbers that are not free: those of the entries, and that of the target's latest echo. -/
def Part.numbersTaken (p : Part) (target : Target) : List CmdNum :=
  p.schedule.entries.map (·.num) ++
    match target with
    | .breaker b => ((p.breaker b).echo.map (·.1)).toList
    | .source _ => []

theorem Part.mem_numbersTaken (h : p.numberFree target n = false) : n ∈ p.numbersTaken target := by
  by_contra hn
  refine absurd (Part.numberFree_iff.mpr ⟨fun e he hen => hn ?_, fun b hb r hr => hn ?_⟩) (Bool.eq_false_iff.mp h)
  · exact List.mem_append_left _ (List.mem_map.mpr ⟨e, he, hen⟩)
  · subst hb
    exact List.mem_append_right _ (by simp [hr])

theorem Part.length_numbersTaken (p : Part) (target : Target) :
    (p.numbersTaken target).length ≤ p.schedule.entries.length + 1 := by
  cases target with
  | source s => simp [Part.numbersTaken]
  | breaker b => cases h : (p.breaker b).echo <;> simp [Part.numbersTaken, h]

theorem ofNat_injOn : Set.InjOn (fun j : Nat => BitVec.ofNat 8 j) (Finset.range 256) := by
  intro i hi j hj hij
  have := congrArg BitVec.toNat hij
  simp only [Finset.coe_range, Set.mem_Iio, BitVec.toNat_ofNat] at hi hj this
  omega

/-- Fewer numbers are taken than there are, so one from any number on is free (R157). -/
theorem Part.exists_numberFree (h : p.schedule.entries.length + 1 < 256) (n : CmdNum) :
    ∃ k < 256, p.numberFree target (n + BitVec.ofNat 8 k) = true := by
  by_contra! hnone
  have hsub : (Finset.range 256).image (fun j => n + BitVec.ofNat 8 j) ⊆ (p.numbersTaken target).toFinset := by
    intro m hm
    obtain ⟨k, hk, rfl⟩ := Finset.mem_image.mp hm
    exact List.mem_toFinset.mpr (Part.mem_numbersTaken (by simpa using hnone k (Finset.mem_range.mp hk)))
  have hcard := Finset.card_le_card hsub
  have hinj : Set.InjOn (fun j => n + BitVec.ofNat 8 j) (Finset.range 256) :=
    fun i hi j hj hij => ofNat_injOn hi hj (by simpa using hij)
  rw [Finset.card_image_of_injOn hinj, Finset.card_range] at hcard
  have hlist := List.toFinset_card_le (p.numbersTaken target)
  have hlen := p.length_numbersTaken target
  omega

/-- Looking up to `k` numbers further passes over numbers that are not free, and ends at one that is, if there is one so
near. -/
theorem Part.numberFrom_spec (p : Part) (target : Target) : ∀ (k : Nat) (n : CmdNum),
    (∃ i < k, p.numberFree target (n + BitVec.ofNat 8 i) = true) →
      ∃ i < k, p.numberFrom target k n = n + BitVec.ofNat 8 i ∧ p.numberFree target (n + BitVec.ofNat 8 i) = true ∧
        ∀ j < i, p.numberFree target (n + BitVec.ofNat 8 j) = false
  | 0, _, ⟨_, hi, _⟩ => absurd hi (Nat.not_lt_zero _)
  | k + 1, n, ⟨i, hi, hfree⟩ => by
    have hshift (j : Nat) : n + 1 + BitVec.ofNat 8 j = n + BitVec.ofNat 8 (j + 1) := by
      rw [BitVec.ofNat_add, BitVec.add_assoc, BitVec.add_comm (1 : CmdNum)]
      rfl
    unfold Part.numberFrom
    split
    · next h => exact ⟨0, by omega, by simp, by simpa using h, fun j hj => absurd hj (Nat.not_lt_zero j)⟩
    · next h =>
      cases i with
      | zero => exact absurd (by simpa using hfree) h
      | succ i =>
        obtain ⟨m, hm, hnum, hmfree, hbefore⟩ :=
          p.numberFrom_spec target k (n + 1) ⟨i, by omega, by rw [hshift]; exact hfree⟩
        rw [hshift] at hnum hmfree
        refine ⟨m + 1, by omega, hnum, hmfree, fun j hj => ?_⟩
        cases j with
        | zero => simpa using h
        | succ j => rw [← hshift]; exact hbefore j (by omega)

/-- With at most 16 entries the number an insertion is given is the first free one (R157). -/
theorem Part.nextNumber_spec (h : p.schedule.entries.length ≤ scheduleRoom) (target : Target) :
    ∃ k < 256, p.nextNumber target = p.schedule.next + BitVec.ofNat 8 k ∧
      p.numberFree target (p.schedule.next + BitVec.ofNat 8 k) = true ∧
      ∀ j < k, p.numberFree target (p.schedule.next + BitVec.ofNat 8 j) = false :=
  p.numberFrom_spec target 256 _ (Part.exists_numberFree (by unfold scheduleRoom at h; omega) _)

theorem Part.nextNumber_free (h : p.schedule.entries.length ≤ scheduleRoom) (target : Target) :
    p.numberFree target (p.nextNumber target) = true := by
  obtain ⟨k, _, hnum, hfree, _⟩ := Part.nextNumber_spec h target
  rwa [hnum]

end

/-- Settles O53: of 256 numbers at most 17 are taken, so the search from the next number on ends at a free one. -/
theorem commandNumbersAreFresh : Obligations.CommandNumbersAreFresh := by
  refine ⟨fun p target h => ⟨Part.nextNumber_free h target, ?_⟩, fun p target n => Part.numberFree_iff, ?_, ?_⟩
  · obtain ⟨k, hk, hnum, _, hbefore⟩ := Part.nextNumber_spec h target
    exact ⟨k, hk, hnum, hbefore⟩
  · intro p q target a o timed num h
    obtain ⟨_, t, hacc⟩ := Part.insertEntry_ok h
    cases hacc
    obtain ⟨d, hd⟩ := p.withDue_eq
      ⟨p.nextNumber target, target, a, t, o, false, p.now, p.schedule.settings.horizon, none, none, false, .stopped⟩
    exact ⟨rfl, rfl, _, mem_placeEntry .., by simp [hd]⟩
  · intro p q num time h
    obtain ⟨_, _, _, e', hnum, htime, rfl⟩ := Part.retimeEntry_some h
    exact ⟨rfl, e', mem_placeEntry .., hnum, htime⟩

end Sys2Proof.Machine
end

section
/-! SUPPORT. The schedule, which the Command Scheduler changes, and the functions by which the Synchronising Unit, the
Plan Executor and the requests ask it for an entry or to cancel one: the functions of the other blocks that more than
one hand-off runs leave it as it is. -/

namespace Sys2Proof.Machine

section

variable (p : Part)

@[simp] theorem Part.setAttempt_schedule (v) : (p.setAttempt v).schedule = p.schedule := rfl
@[simp] theorem Part.tally_schedule (k f) : (p.tally k f).schedule = p.schedule := rfl
@[simp] theorem Part.nextSeq_schedule : p.nextSeq.schedule = p.schedule := rfl
@[simp] theorem Part.clearFlag_schedule (f) : (p.clearFlag f).schedule = p.schedule := rfl
@[simp] theorem Part.recordFault_schedule (r) : (p.recordFault r).schedule = p.schedule := rfl
@[simp] theorem Part.judgeReturn_schedule (x) : (p.judgeReturn x).schedule = p.schedule := rfl
@[simp] theorem Part.judgeReturns_schedule : p.judgeReturns.schedule = p.schedule := rfl
@[simp] theorem Part.engage_schedule (c e) : (p.engage c e).schedule = p.schedule := rfl
@[simp] theorem Part.updateRecord_schedule (serial f) : (p.updateRecord serial f).schedule = p.schedule := rfl
@[simp] theorem Part.updateStep_schedule (f) : (p.updateStep f).schedule = p.schedule := rfl
@[simp] theorem Part.slew_schedule (e) : (p.slew e).schedule = p.schedule := rfl

@[simp] theorem Part.setIfStanding_schedule (f : Flag) : (p.setIfStanding f).schedule = p.schedule := by
  unfold Part.setIfStanding
  split <;> simp

@[simp] theorem Part.judgeService_schedule (b : Breaker) : (p.judgeService b).schedule = p.schedule := by
  unfold Part.judgeService
  split <;> simp

@[simp] theorem Part.setPosition_schedule (b : Breaker) (pos : Position) :
    (p.setPosition b pos).schedule = p.schedule := by
  cases b <;> rfl

/-- Parts reached in turn, each with the schedule of the one before it. -/
theorem foldl_schedule {α : Type} {f : Part → α → Part} (h : ∀ q a, (f q a).schedule = q.schedule) (l : List α) :
    (l.foldl f p).schedule = p.schedule := by
  induction l generalizing p with
  | nil => rfl
  | cons a l ih => exact (ih (f p a)).trans (h p a)

/-! ### The Link Port, the Monitor, the Request Arbiter and the Load Manager -/

@[simp] theorem offerForward_schedule (k : Port) (bytes : List Byte) :
    (offerForward k bytes p).1.schedule = p.schedule := by
  simp only [offerForward]
  repeat' split
  all_goals rfl

@[simp] theorem takeIn_schedule (k : Port) (bytes : List Byte) : (takeIn k bytes p).1.schedule = p.schedule := by
  unfold takeIn
  split <;> rfl

@[simp] theorem placeResponse_schedule (f : ResponseFrame) (k : Port) :
    (placeResponse f k p).schedule = p.schedule := by
  simp only [placeResponse]
  repeat' split
  all_goals rfl

@[simp] theorem placeStatus_schedule (f : StatusFrame) (k : Port) : (placeStatus f k p).schedule = p.schedule := by
  unfold placeStatus
  split <;> rfl

theorem announce_schedule (k : Port) (f : AnnounceFrame) : (announce k f p).1.schedule = p.schedule := by
  refine announce_keeps p (fun q => q.schedule = p.schedule) rfl (fun r n => ?_) fun _ _ _ hq => hq
  rcases claimRow_cases p k r n with h | h | h | ⟨h, _⟩ | ⟨r2, h, _⟩ <;> rw [h]
  case inr.inl => exact p.raiseFlag_schedule _
  all_goals rfl

@[simp] theorem countUncommanded_schedule (b : Breaker) : (countUncommanded b p).schedule = p.schedule := by
  cases b <;> rfl

@[simp] theorem monitorIdle_schedule : (monitorIdle p).schedule = p.schedule := by
  obtain ⟨v, h⟩ := monitorIdle_eq p
  rw [h]

@[simp] theorem breakerFails_schedule (b : Breaker) : (breakerFails b p).schedule = p.schedule := by
  simp [breakerFails]

@[simp] theorem countInterlock_schedule (b : Breaker) : (countInterlock b p).schedule = p.schedule := rfl

theorem unitGone_schedule (role : Role) : (unitGone role p).1.schedule = p.schedule := by
  cases role <;> simp only [unitGone, breakerGone, masterGone, genGone]
  all_goals repeat' split
  all_goals simp

@[simp] theorem timeLocked_schedule (target : Nat) (e : Int) : (timeLocked target e p).1.schedule = p.schedule := by
  unfold timeLocked
  dsimp only
  repeat' split
  all_goals simp [stepTime]

@[simp] theorem takeRequested_schedule (c : Channel) : (takeRequested c p).schedule = p.schedule := by cases c <;> rfl
@[simp] theorem handPlan_schedule (pl : Plan) : (handPlan pl p).1.schedule = p.schedule := rfl

@[simp] theorem restoreStage_schedule (x : Bus) : (restoreStage x p).1.schedule = p.schedule := by
  obtain ⟨v, h | h⟩ := restoreStage_only p x
  · simp [h]
  · simp [h]

@[simp] theorem judgeCandidate_schedule (x : Bus) : (judgeCandidate x p).1.schedule = p.schedule := by
  unfold judgeCandidate restoreBlocked
  dsimp only
  repeat' split
  all_goals simp

/-! ### The Synchronising Unit and the Plan Executor, beside what they ask of the Scheduler -/

@[simp] theorem finishAttempt_schedule (a st r) : (finishAttempt a st r p).schedule = p.schedule := rfl
@[simp] theorem endAttempt_schedule (a st r) : (endAttempt a st r p).1.schedule = p.schedule := rfl
@[simp] theorem endStep_schedule (o) : (endStep o p).schedule = p.schedule := rfl
@[simp] theorem passStep_schedule (o) : (passStep o p).1.schedule = p.schedule := rfl
@[simp] theorem waitTimer_schedule (n) : (waitTimer n p).1.schedule = p.schedule := rfl
@[simp] theorem decideEnd_schedule (o) : (decideEnd o p).schedule = p.schedule := rfl
@[simp] theorem decideAborted_schedule : (decideAborted p).1.schedule = p.schedule := rfl
@[simp] theorem endGuard_schedule (mark) : (endGuard mark p).schedule = p.schedule := rfl

@[simp] theorem abandonStep_schedule : (abandonStep p).1.schedule = p.schedule := by
  unfold abandonStep
  split <;> rfl

@[simp] theorem settleAborted_schedule : (settleAborted p).1.schedule = p.schedule := by
  unfold settleAborted
  dsimp only
  repeat' split
  all_goals rfl

@[simp] theorem judgeGuard_schedule (b : Breaker) (r i : Point) (set : Fin 4) :
    (judgeGuard b r i set p).schedule = p.schedule := by
  unfold judgeGuard
  dsimp only
  split <;> rfl

@[simp] theorem endParallel_schedule (s : Step) : (endParallel s p).schedule = p.schedule := by
  unfold endParallel
  repeat' split
  all_goals rfl

@[simp] theorem entryConfirmed_schedule (s : Step) (told : List Task) :
    (entryConfirmed s told p).1.schedule = p.schedule := by
  unfold entryConfirmed
  dsimp only
  repeat' split
  all_goals simp

@[simp] theorem entryAborting_schedule (s : Step) (r : Option Reason) (told : List Task) :
    (entryAborting s r told p).1.schedule = p.schedule := by
  simp only [entryAborting]
  split <;> simp

@[simp] theorem guardEntry_schedule (num : CmdNum) (serial : Nat) (o : EntryOutcome) :
    (guardEntry num serial o p).1.schedule = p.schedule := by
  simp only [guardEntry]
  split <;> rfl

/-! ### The requests -/

theorem applyMap_schedule (ks : List UnitMapRow) (i : Nat) :
    (applyMap ks i p).1.schedule = p.schedule := by
  induction ks generalizing i p with
  | nil => rfl
  | cons k ks ih =>
    simp only [applyMap]
    split
    · exact ih ..
    · rfl

theorem rekindAll_schedule (old : Topology) (ss : List Src) :
    (rekindAll old ss p).1.schedule = p.schedule := by
  induction ss generalizing p with
  | nil => rfl
  | cons s ss ih => exact ih _

theorem applyTopology_schedule (t : Topology) : (applyTopology t p).1.schedule = p.schedule :=
  rekindAll_schedule { p with topology := t } p.topology allSrcs

theorem clearTallies_schedule (first count : Nat) : (clearTallies first count p).schedule = p.schedule := by
  simp only [clearTallies]
  split <;> split <;> rfl

theorem requestAck_schedule (m : Sender) (flags : List (Option Flag)) :
    (requestAck m flags p).1.schedule = p.schedule := by
  unfold requestAck
  split
  · rfl
  · exact (foldl_schedule _ (fun q f => q.raiseFlag_schedule f) _).trans
      (foldl_schedule p (fun q f => q.clearFlag_schedule f) _)

end

/-! ### Every hand-off that does not reach the schedule -/

/-- A hand-off that can change the schedule: one by which an entry is asked for, judged, sent, resolved or cancelled,
the clock's count, a request and RESTART. -/
def Task.setsSchedule : Task → Bool
  | .request .. | .slewInstant | .restart => true
  | .entryDue _ | .deadlineExpiry _ | .handOver | .judgeBreakerEntry _ | .judgeSourceEntry _ => true
  | .evaluate _ | .syncLimitExpiry | .timeQualityPoor => true
  | .abort _ | .beginStep .. | .failStep .. | .shedNext .. | .stepEntry .. | .runCheck _ => true
  | .waitdeadTimeout | .waithealthyTimeout | .attemptDone | .guardExpiry | .guardFailPlan => true
  | _ => false

/-- The other hand-offs replace records of their own blocks in each of their branches. -/
theorem runTask_schedule {t : Task} (ht : t.setsSchedule = false) (p : Part) :
    (runTask t p).1.schedule = p.schedule := by
  cases t <;> simp [Task.setsSchedule] at ht <;> simp only [runTask]
  case announce => exact announce_schedule ..
  case unitGone => exact unitGone_schedule ..
  case recordFault => rfl
  case restoreStage => exact restoreStage_schedule ..
  case loadOutcome c => cases c <;> rfl
  all_goals
    simp only [receive, portUp, portDown, transmitEnd, silenceExpiry, mapFrame, supervise, egress, statusExpiry,
      respond, unitLost, takeForeign, respondOperate, timeFrame, stepTime, holdoverExpiry, takeReading, takeGenstat,
      sourceReading, pointBlind, sourceChanged, genChanged, pickupExpiry, takeReport, unplannedExpiry,
      deadConfirmExpiry, returnExpiry, liveState, feedTold, busFault, raiseLost, startBus, dwellExpiry, nextStep,
      windDown, waitDeadCheck, healthCheck, guardFeed, guardTripped, attemptEntry, reportEntry, operateEntry,
      breakerEntries, sourceEntries, frequencyExpiry, capacityExpiry, settleExpiry, staggerExpiry, load, shedStage,
      shedNow, shedRaised, capacityShort, restoreOutcome, loadStart, shedMark, raise, judgeTake, judgePreempt,
      afterStart, select, planEnded, endEngagement, arbiterIdle, recordOutcome, enterHalted]
    repeat' split
    all_goals simp

end Sys2Proof.Machine
end

section
/-! PROOF. O8: every step keeps the schedule within 16 entries, with no command number twice. -/

namespace Sys2Proof.Machine

/-! ### Schedules with no more numbers, and one more entry (R155, R157, R159) -/

/-- What the law says of a schedule. -/
def Schedule.sound (k : Schedule) : Prop := k.entries.length ≤ scheduleRoom ∧ (k.entries.map (·.num)).Nodup

theorem Part.scheduleSound_iff (p : Part) : p.scheduleSound ↔ p.schedule.sound := Iff.rfl

/-- A schedule is sound whose numbers are among those of a sound one, each at most as often. -/
theorem Schedule.sound_of_subperm {k l : Schedule} (h : (l.entries.map (·.num)).Subperm (k.entries.map (·.num)))
    (hk : k.sound) : l.sound := by
  have ⟨nums, hperm, hsub⟩ := h
  refine ⟨?_, hperm.nodup_iff.mp (hk.2.sublist hsub)⟩
  simpa using h.length_le.trans (by simpa using hk.1)

/-- Entries replaced by others of the same numbers. -/
theorem Schedule.sound_map {k l : Schedule} {f : Entry → Entry} (h : l.entries = k.entries.map f)
    (hf : ∀ e, (f e).num = e.num) (hk : k.sound) : l.sound :=
  Schedule.sound_of_subperm (by simp [h, Function.comp_def, hf, List.Subperm.refl]) hk

@[simp] theorem countSchedule_scheduleSound (p : Part) (f : ScheduleTallies → ScheduleTallies) :
    (p.countSchedule f).schedule.sound ↔ p.schedule.sound := Iff.rfl

/-- The entry evicted is one of the schedule's (R159). -/
theorem mem_of_evictee {es : List Entry} {e : Entry} (h : evictee es = some e) : e ∈ es := by
  simp only [evictee, Option.orElse_eq_some] at h
  rcases h with h | ⟨_, h | ⟨_, h | ⟨_, h⟩⟩⟩
  · exact List.mem_of_mem_filter (List.mem_of_getLast? h)
  · exact List.mem_of_mem_filter (List.mem_of_getLast? h)
  · exact List.mem_of_mem_filter (List.mem_of_head? h)
  · exact List.mem_of_getLast? h

/-- Every schedule that holds an entry has one to evict (R159). -/
theorem entries_nil_of_evictee {es : List Entry} (h : evictee es = none) : es = [] := by
  simp only [evictee, Option.orElse_eq_none] at h
  obtain ⟨_, _, _, hlast⟩ := h
  exact List.getLast?_eq_none_iff.mp hlast

section

variable {p : Part} (hp : p.schedule.sound)
include hp

@[simp] theorem refreshDue_scheduleSound : p.refreshDue.schedule.sound := Schedule.sound_map rfl p.withDue_num hp

@[simp] theorem dropEntry_scheduleSound (num : CmdNum) : (p.dropEntry num).schedule.sound :=
  Schedule.sound_of_subperm ((List.filter_sublist.map _).subperm) hp

@[simp] theorem cancelEntry_scheduleSound (num : CmdNum) : (p.cancelEntry num).schedule.sound := by
  unfold Part.cancelEntry
  split
  · exact dropEntry_scheduleSound hp num
  · exact hp

theorem cancelEntries_scheduleSound (nums : List CmdNum) :
    (nums.foldl (fun q n => q.cancelEntry n) p).schedule.sound := by
  induction nums generalizing p with
  | nil => exact hp
  | cons n nums ih => exact ih (cancelEntry_scheduleSound hp n)

theorem count_scheduleSound : p.count.schedule.sound :=
  Schedule.sound_map (f := fun e => { e with deadline := _ }) rfl (fun _ => rfl) hp

/-- An entry is accepted under a number that no other holds (R157). -/
theorem accept_scheduleSound (hroom : p.schedule.entries.length < scheduleRoom) (target : Target) (action : Action)
    (owner : Owner) (t : Nat) : (p.accept target action owner t).1.schedule.sound := by
  have hfree := (Part.numberFree_iff.mp (Part.nextNumber_free hp.1 target)).1
  have hperm {e : Entry} := placeEntry_perm (p.withDue e) p.schedule.entries
  refine ⟨hperm.length_eq.trans_le hroom, ((hperm.map _).nodup_iff).mpr ?_⟩
  rw [List.map_cons, List.nodup_cons]
  refine ⟨fun hmem => ?_, hp.2⟩
  obtain ⟨e, he, hnum⟩ := List.mem_map.mp hmem
  exact hfree e he (hnum.trans (p.withDue_num _))

theorem insertEntry_scheduleSound {q : Part} {target : Target} {action : Action} {owner : Owner} {timed : Option Nat}
    {num : CmdNum} (h : p.insertEntry target action owner timed = .ok (q, num)) : q.schedule.sound := by
  obtain ⟨hroom, t, hacc⟩ := Part.insertEntry_ok h
  have := accept_scheduleSound hp hroom target action owner t
  rwa [hacc] at this

/-- A retimed entry keeps its number, which no entry left beside it holds (R160). -/
theorem retimeEntry_scheduleSound {q : Part} {num : CmdNum} {t : Nat} (h : p.retimeEntry num t = some q) :
    q.schedule.sound := by
  obtain ⟨e, he, hnum, e', hnum', _, rfl⟩ := Part.retimeEntry_some h
  have hperm := (placeEntry_perm e' (p.schedule.entries.filter (fun x => x.num != num))).map (·.num)
  refine Schedule.sound_of_subperm (hperm.subperm.trans (List.subperm_of_subset ?_ ?_)) hp
  · rw [List.map_cons, List.nodup_cons, hnum']
    exact ⟨by simp, hp.2.sublist (List.filter_sublist.map _)⟩
  · rw [List.map_cons, List.cons_subset, hnum', ← hnum]
    exact ⟨List.mem_map_of_mem he, (List.filter_sublist.map _).subset⟩

/-- Where a GUARD insertion finds the schedule full, it evicts an entry that the schedule holds (R159). -/
theorem insertGuard_scheduleSound (b : Breaker) (serial : Nat) : (p.insertGuard b serial).1.schedule.sound := by
  simp only [Part.insertGuard]
  split
  · next e he =>
    have hmem : e ∈ p.schedule.entries := by
      split at he
      · exact mem_of_evictee he
      · cases he
    refine accept_scheduleSound (by simp [hp]) ?_ ..
    have hlt : (p.schedule.entries.filter (fun x => x.num != e.num)).length < p.schedule.entries.length :=
      List.length_filter_lt_length_iff_exists.mpr ⟨e, hmem, by simp⟩
    exact hlt.trans_le hp.1
  · next he =>
    refine accept_scheduleSound hp ?_ ..
    by_contra hfull
    rw [if_pos (Nat.le_of_not_lt hfull)] at he
    simp [entries_nil_of_evictee he, scheduleRoom] at hfull

/-! ### The Command Scheduler -/

theorem sendEntry_scheduleSound {e : Entry} : (sendEntry e p).1.schedule.sound :=
  Schedule.sound_map (sendEntry_entries e p) (fun x => by split <;> simp_all [Part.sentNow]) hp

theorem judgeHead_scheduleSound {e : Entry} : (judgeHead e p).1.schedule.sound := by
  unfold judgeHead
  split
  · simp [hp]
  · split
    · exact sendEntry_scheduleSound hp
    · split
      · simp [hp]
      · exact sendEntry_scheduleSound hp

theorem handOver_scheduleSound : (handOver p).1.schedule.sound := by
  have hr := refreshDue_scheduleSound hp
  unfold handOver
  dsimp only
  split
  · exact judgeHead_scheduleSound (p := takeBack p.refreshDue) hr
  · repeat' split
    · exact hr
    · rw [offerHeld_schedule]
      exact hr
    · exact judgeHead_scheduleSound hr
    · exact hr

theorem entryDue_scheduleSound (num : CmdNum) : (entryDue num p).1.schedule.sound := by
  unfold entryDue
  repeat' split
  all_goals simp [hp]

@[simp] theorem resolve_scheduleSound (e : Entry) (o : EntryOutcome) : (resolve e o p).1.schedule.sound :=
  dropEntry_scheduleSound hp e.num

@[simp] theorem refuse_scheduleSound (e : Entry) (r : Reason) : (refuse e r p).1.schedule.sound :=
  dropEntry_scheduleSound hp e.num

theorem judgeBreakerEntry_scheduleSound (num : CmdNum) : (judgeBreakerEntry num p).1.schedule.sound := by
  unfold judgeBreakerEntry
  repeat' split
  all_goals simp [hp]

theorem judgeSourceEntry_scheduleSound (num : CmdNum) : (judgeSourceEntry num p).1.schedule.sound := by
  unfold judgeSourceEntry
  dsimp only
  repeat' split
  all_goals simp [hp]

theorem deadlineExpiry_scheduleSound (num : CmdNum) : (deadlineExpiry num p).1.schedule.sound := by
  unfold deadlineExpiry
  dsimp only
  repeat' split
  all_goals simp [hp]

/-! ### The Synchronising Unit -/

@[simp] theorem cancelAttemptEntry_scheduleSound (a : AttemptRecord) : (cancelAttemptEntry a p).1.schedule.sound := by
  unfold cancelAttemptEntry
  split <;> simp [hp]

@[simp] theorem breakOff_scheduleSound (a st r) : (breakOff a st r p).1.schedule.sound := by simp [breakOff, hp]

theorem arm_scheduleSound (a : AttemptRecord) (tc : Nat) : (arm a tc p).1.schedule.sound := by
  unfold arm
  split
  · next h => simpa using insertEntry_scheduleSound hp h
  · exact hp

theorem retime_scheduleSound (a : AttemptRecord) (tc : Nat) : (retime a tc p).1.schedule.sound := by
  unfold retime
  split
  · exact hp
  · split
    · exact hp
    · split
      · next h => simpa using retimeEntry_scheduleSound hp h
      · simp [hp]

theorem evaluateAttempt_scheduleSound (a : AttemptRecord) : (evaluateAttempt a p).1.schedule.sound := by
  unfold evaluateAttempt
  dsimp only
  split
  · simp [hp]
  · split
    · exact arm_scheduleSound (by exact hp) ..
    · exact retime_scheduleSound (by exact hp) ..
    · exact cancelAttemptEntry_scheduleSound (by exact hp) _
    · exact hp

theorem evaluate_scheduleSound (pt : Point) : (evaluate pt p).1.schedule.sound := by
  unfold evaluate
  repeat' split
  case isTrue => exact evaluateAttempt_scheduleSound hp _
  all_goals exact hp

theorem syncLimitExpiry_scheduleSound : (syncLimitExpiry p).1.schedule.sound := by
  unfold syncLimitExpiry
  dsimp only
  repeat' split
  all_goals simp [hp]

theorem timeQualityPoor_scheduleSound : (timeQualityPoor p).1.schedule.sound := by
  unfold timeQualityPoor
  repeat' split
  all_goals simp [hp]

@[simp] theorem abandonAttempt_scheduleSound : (abandonAttempt p).schedule.sound := by
  unfold abandonAttempt
  dsimp only
  repeat' split
  all_goals simp [hp]

/-! ### The Plan Executor and its guard -/

@[simp] theorem cancelQueued_scheduleSound : (cancelQueued p).schedule.sound := cancelEntries_scheduleSound hp _

@[simp] theorem failNow_scheduleSound (r : Reason) : (failNow r p).1.schedule.sound :=
  cancelQueued_scheduleSound (p := endStep _ p) hp

@[simp] theorem placeEntryFor_scheduleSound (target : Target) (action : Action) (group : Option Grp) :
    (placeEntryFor target action group p).1.schedule.sound := by
  unfold placeEntryFor
  dsimp only
  split
  · exact hp
  · split
    · exact hp
    · next h => simpa using insertEntry_scheduleSound hp h

theorem startAttempt_scheduleSound (b r i set c t n) : (startAttempt b r i set c t n p).1.schedule.sound :=
  evaluateAttempt_scheduleSound (p := { p.setAttempt _ with syncTimer := _ }) hp _

/-- A step that begins passes, fails, waits, places an entry or starts an attempt, by its kind (R117, R119–R127). -/
theorem beginKind_scheduleSound (s : Step) : (beginKind s p).1.schedule.sound := by
  cases s <;> simp only [beginKind, beginOpen, beginClose, beginSync, beginRun, beginStop, beginShedFit]
  case sync =>
    repeat' split
    case h_2 => exact startAttempt_scheduleSound (by exact hp) ..
    all_goals simp [hp]
  all_goals repeat' split
  all_goals simp [hp]

theorem abort_scheduleSound (cause : AbortCause) : (abort cause p).1.schedule.sound := by
  have hq (v : ExecRecord) : (cancelQueued (p.setExec v)).schedule.sound := cancelQueued_scheduleSound (by exact hp)
  unfold abort
  dsimp only
  repeat' split
  all_goals simp [hp, hq]

theorem guardFailPlan_scheduleSound : (guardFailPlan p).1.schedule.sound := by
  have hq := cancelQueued_scheduleSound hp
  have ha (v : ExecRecord) : (abandonAttempt ((cancelQueued p).setExec v)).schedule.sound :=
    abandonAttempt_scheduleSound (by exact hq)
  unfold guardFailPlan
  dsimp only
  repeat' split
  all_goals simp [hp, hq, ha]

theorem guardExpiry_scheduleSound : (guardExpiry p).1.schedule.sound := by
  unfold guardExpiry
  split
  · exact insertGuard_scheduleSound hp ..
  · exact hp

theorem stepEntry_scheduleSound (num : CmdNum) (owner : Owner) (o : EntryOutcome) :
    (stepEntry num owner o p).1.schedule.sound := by
  unfold stepEntry
  dsimp only
  repeat' split
  case h_2.isTrue => exact failNow_scheduleSound (by exact hp) _
  all_goals simp [hp]

theorem attemptDone_scheduleSound : (attemptDone p).1.schedule.sound := by
  unfold attemptDone
  dsimp only
  repeat' split
  all_goals simp [hp]

/-! ### The requests -/

theorem applyLives_scheduleSound (ks : List LiveRow) (row : Nat) : (applyLives ks row p).schedule.sound := by
  induction ks generalizing row p with
  | nil => exact hp
  | cons k ks ih =>
    refine ih ?_ (row + 1)
    cases k <;> simp only [applyLive]
    case point => split <;> exact hp
    all_goals exact hp

theorem requestOperate_scheduleSound (m : Sender) (n : Nat) (a : Option Action) :
    (requestOperate m n a p).1.schedule.sound := by
  unfold requestOperate
  split
  · exact hp
  · split
    · exact hp
    · exact hp
    · split
      · next h => exact insertEntry_scheduleSound hp h
      · exact hp

/-- OPERATE inserts an entry, a write can change the schedule's settings, and no other request touches the schedule. -/
theorem carryOut_scheduleSound (m : Sender) (r : Request) : (carryOut m r p).1.schedule.sound := by
  have hsame {q : Part} (h : q.schedule = p.schedule) : q.schedule.sound := by rwa [h]
  have hwrite {α : Type} {table first count : Nat} {rows : Judged (List α)} {whole : List α → Option RefusedReason}
      {apply : List α → Res} (h : ∀ ks, (apply ks).1.schedule = p.schedule) :
      (writeWith m table first count p rows whole apply).1.schedule.sound :=
    writeWith_keeps (fun q => q.schedule.sound) hp fun ks _ _ _ => hsame (h ks)
  cases r <;> simp only [carryOut]
  case operate => exact requestOperate_scheduleSound hp ..
  case writeRows =>
    exact writeWith_keeps (fun q => q.schedule.sound) hp fun ks _ _ _ => applyLives_scheduleSound hp ..
  case writeUnitMap => exact hwrite fun _ => applyMap_schedule ..
  case writeTopology => exact hwrite fun _ => applyTopology_schedule ..
  case writeBreakerSettings => exact hwrite fun _ => foldl_schedule _ (fun q b => q.judgeService_schedule b) _
  case clearPortTallies => exact hwrite fun _ => clearTallies_schedule ..
  case writeTemplates => exact hwrite fun _ => rfl
  case writeCandidateLists => exact hwrite fun _ => rfl
  case writeSourceSettings => exact hwrite fun _ => rfl
  case writeBusSettings => exact hwrite fun _ => rfl
  case writeGroupTable => exact hwrite fun _ => rfl
  case ackConditions => exact hsame (requestAck_schedule ..)
  case unknown => exact hp
  all_goals
    simp only [readRows, requestStart, requestHalt, requestTemplate, requestConfirm, requestSetChannel,
      requestClearFaults, requestServiceOut, requestServiceIn, requestClearLockout, requestResetBreaker,
      requestRestoreGroup, requestIdentify, requestRestart]
    repeat' split
    all_goals exact hp

/-! ### Every hand-off, and every step -/

theorem slewInstant_scheduleSound : (slewInstant p).1.schedule.sound := by
  simp only [slewInstant]
  repeat' split
  case isTrue.isTrue => exact count_scheduleSound (by exact hp)
  all_goals exact hp

theorem tick_scheduleSound : p.tick.schedule.sound := by
  simp only [Part.tick]
  split <;> split
  case isTrue.isTrue => exact count_scheduleSound (by exact hp)
  case isFalse.isTrue => exact count_scheduleSound (by exact hp)
  all_goals exact hp

end

/-- RESTART empties the schedule (R155, R196). -/
theorem restart_scheduleSound (p : Part) : (restart p).1.schedule.sound := by
  rw [restart, foldl_schedule _ (fun q f => q.setIfStanding_schedule f)]
  exact ⟨Nat.zero_le _, List.nodup_nil⟩

theorem runTask_scheduleSound (t : Task) (p : Part) (hp : p.scheduleSound) : (runTask t p).1.scheduleSound := by
  rw [Part.scheduleSound_iff] at hp ⊢
  cases ht : t.setsSchedule
  case false => rwa [runTask_schedule ht]
  case true =>
    cases t <;> simp [Task.setsSchedule] at ht <;> simp only [runTask]
    case request => exact carryOut_scheduleSound (by exact hp) ..
    case slewInstant => exact slewInstant_scheduleSound hp
    case restart => exact restart_scheduleSound p
    case entryDue => exact entryDue_scheduleSound hp _
    case deadlineExpiry => exact deadlineExpiry_scheduleSound hp _
    case handOver => exact handOver_scheduleSound hp
    case judgeBreakerEntry => exact judgeBreakerEntry_scheduleSound hp _
    case judgeSourceEntry => exact judgeSourceEntry_scheduleSound hp _
    case evaluate => exact evaluate_scheduleSound hp _
    case syncLimitExpiry => exact syncLimitExpiry_scheduleSound hp
    case timeQualityPoor => exact timeQualityPoor_scheduleSound hp
    case abort => exact abort_scheduleSound hp _
    case stepEntry => exact stepEntry_scheduleSound hp ..
    case attemptDone => exact attemptDone_scheduleSound hp
    case guardExpiry => exact guardExpiry_scheduleSound hp
    case guardFailPlan => exact guardFailPlan_scheduleSound hp
    case beginStep =>
      unfold beginStep
      repeat' split
      case h_1 => exact beginKind_scheduleSound hp _
      all_goals exact hp
    case shedNext =>
      unfold shedNext
      split
      · exact hp
      · split
        · exact placeEntryFor_scheduleSound hp ..
        · exact hp
    all_goals
      simp only [failStep, runCheck, waitdeadTimeout, waithealthyTimeout]
      repeat' split
      all_goals simp [hp]

/-- Settles O8: an entry is accepted only into a schedule with room, under a number that is free, and every other change
of the schedule keeps its numbers or takes some away. -/
theorem stepsKeepTheScheduleSound : Obligations.StepsKeepTheScheduleSound :=
  step_keeps Part.scheduleSound runTask_scheduleSound (fun _ _ => ⟨Nat.zero_le _, List.nodup_nil⟩)
    (fun _ => tick_scheduleSound) fun _ _ hp => hp

end Sys2Proof.Machine
end

section
/-! PROOF. O52: entries come due, and SENT entries time out. -/

namespace Sys2Proof.Machine

/-! ### Entries that come due (R161, R162) -/

section

variable {p : Part} {num : CmdNum} {e : Entry}

/-- No QUEUED entry of a number newly comes due. -/
theorem entryDue_not_due (h : ∀ e, p.entry num = some e →
      e.sent = true ∨ e.dueSince.isSome = true ∨ p.now + p.schedule.settings.sendLead < e.executeAt) :
    entryDue num p = (p, []) := by
  unfold entryDue
  split
  · next e he =>
    rw [if_neg]
    rcases h e he with hsent | hdue | hlater
    · simp [hsent]
    · simp [Option.isSome_iff_ne_none.mp hdue]
    · simp [Part.isDue, hlater]
  · rfl

theorem Part.withDue_of_sent (p : Part) (hs : e.sent = true) : p.withDue e = e := if_pos hs

theorem Part.withDue_of_due (hs : e.sent = false) (hd : p.isDue e = true) :
    p.withDue e = { e with dueSince := some (e.dueSince.getD p.now) } := by
  simp [Part.withDue, hs, hd]

theorem Part.withDue_of_not_due (hs : e.sent = false) (hd : p.isDue e = false) :
    p.withDue e = { e with dueSince := none } := by
  simp [Part.withDue, hs, hd]

theorem Part.withDue_withDue (p : Part) (e : Entry) : p.withDue (p.withDue e) = p.withDue e := by
  cases hs : e.sent with
  | true => rw [p.withDue_of_sent hs, p.withDue_of_sent hs]
  | false =>
    cases hd : p.isDue e with
    | true =>
      rw [Part.withDue_of_due hs hd]
      exact Part.withDue_of_due (by exact hs) (by exact hd)
    | false =>
      rw [Part.withDue_of_not_due hs hd]
      exact Part.withDue_of_not_due (by exact hs) (by exact hd)

/-- Judging again what is due, at the same time, changes nothing (R161). -/
theorem Part.refreshDue_refreshDue (p : Part) : p.refreshDue.refreshDue = p.refreshDue := by
  refine Part.refreshDue_of_entries fun e he => ?_
  obtain ⟨e, _, rfl⟩ := List.mem_map.mp he
  exact p.withDue_withDue e

/-- The entry of a number is judged with the others whether it is due (R161). -/
theorem Part.refreshDue_entry (p : Part) (num : CmdNum) : p.refreshDue.entry num = (p.entry num).map p.withDue := by
  change (p.schedule.entries.map p.withDue).find? _ = _
  rw [List.find?_map]
  simp [Part.entry]

/-- With the slots not free and no trip in the line, every entry of the line waits (R162). -/
theorem handOver_waits (hs : p.slotsFree = false) (hg : ∀ e ∈ p.schedule.entries, e.isGuard = false) :
    handOver p = (p.refreshDue, []) := by
  have hline : p.refreshDue.sendLine.find? (·.isGuard) = none := by
    rw [List.find?_eq_none]
    intro e he
    obtain ⟨e0, h0, rfl⟩ := List.mem_map.mp (List.mem_of_mem_filter he)
    simp [hg e0 h0]
  have hslots : p.refreshDue.slotsFree = false := hs
  simp [handOver, hline, hslots]

theorem drains_entryDue_waits (he : p.entry num = some e) (hs : e.sent = false) (hd : e.dueSince = none)
    (ht : e.executeAt ≤ p.now + p.schedule.settings.sendLead) (hslots : p.slotsFree = false)
    (hg : ∀ e' ∈ p.schedule.entries, e'.isGuard = false) : Drains [.entryDue num] p p.refreshDue 2 := by
  have hdue : entryDue num p = (p.refreshDue, [.handOver]) := by simp [entryDue, he, hs, hd, Part.isDue, ht]
  have hwait : handOver p.refreshDue = (p.refreshDue, []) := by
    rw [handOver_waits (by exact hslots), Part.refreshDue_refreshDue]
    intro e' he'
    obtain ⟨e0, h0, rfl⟩ := List.mem_map.mp he'
    simp [hg e0 h0]
  refine drains_cons ?_
  rw [runTask, hdue]
  exact drains_single hwait (drains_nil _)

/-! ### Deadlines (R64, R167) -/

theorem deadlineExpiry_not_due (he : p.entry num = some e) (h : e.sent = false ∨ e.deadline.due = false) :
    deadlineExpiry num p = (p, []) := by
  rcases h with h | h <;> simp [deadlineExpiry, he, h]

/-- The entry of a unit that is not ACTIVE is UNCONFIRMED, and its owner is told (R167). -/
theorem deadlineExpiry_unconfirmed (he : p.entry num = some e) (hs : e.sent = true) (hd : e.deadline.due = true)
    (ha : p.roleActive (targetRole e.target) = false) :
    deadlineExpiry num p =
      ((p.dropEntry num).countSchedule (fun t => { t with unconfirmed := tick16 t.unconfirmed }),
        [.reportEntry e .unconfirmed]) := by
  simp only [deadlineExpiry, he, hs, hd, ha, resolve, Part.num_of_entry he]
  rfl

/-- The fault that BREAKER_TIMEOUT records (R167). -/
def Part.timeoutFault (p : Part) (e : Entry) (b : Breaker) : FaultRecord :=
  { entryFault .breakerTimeout e with position := some (p.breaker b).position }

/-- The entry of a breaker whose unit is ACTIVE times out: the breaker is FAILED, and the Load Manager is told unless it
was (R64, R167). -/
theorem deadlineExpiry_timedOut {b : Breaker} (he : p.entry num = some e) (hs : e.sent = true)
    (hd : e.deadline.due = true) (hb : e.target = .breaker b) (ha : p.roleActive (.breaker b) = true) :
    deadlineExpiry num p =
      (breakerFails b ((p.dropEntry num).countSchedule (fun t => { t with timedOut := tick16 t.timedOut })),
        (if (p.breaker b).failed then [] else [.load]) ++
          [.recordFault (p.timeoutFault e b), .reportEntry e .timedOut]) := by
  simp only [deadlineExpiry, he, hs, hd, hb, targetRole, ha]
  rfl

end

/-! ### What a deadline's hand-offs leave (R167, R168, R186) -/

section

variable {p q : Part} {e : Entry}

theorem reportEntry_of_management (h : e.owner = .management) (o : EntryOutcome) (p : Part) :
    reportEntry e o p = (operateEntry e o p, []) := by
  simp [reportEntry, h]

theorem operateEntry_sameButLoad (h : p.sameButLoad q) (e : Entry) (o : EntryOutcome) :
    (operateEntry e o p).sameButLoad (operateEntry e o q) := by
  obtain ⟨hq, hrest⟩ := h
  refine ⟨?_, hrest⟩
  rw [hq]
  rfl

theorem operateEntry_recordFault_raiseFlag (e : Entry) (o : EntryOutcome) (r : FaultRecord) (f : Flag) (p : Part) :
    operateEntry e o ((p.raiseFlag f).recordFault r) = (operateEntry e o (p.recordFault r)).raiseFlag f := by
  have hcond : (operateEntry e o (p.recordFault r)).condition f = p.condition f := rfl
  simp only [Part.raiseFlag, hcond]
  split <;> rfl

theorem Part.raiseFlag_condition_set (p : Part) (f : Flag) : ((p.raiseFlag f).condition f).set = true := by
  unfold Part.raiseFlag
  dsimp only
  split
  · assumption
  · rw [Part.condition_setCondition, if_pos rfl]

theorem Part.raiseFlag_breaker (p : Part) (f : Flag) (b : Breaker) : (p.raiseFlag f).breaker b = p.breaker b := by
  obtain ⟨v, hv⟩ := p.raiseFlag_management f
  rw [hv]
  rfl

theorem Part.sameButLoad_breaker (h : p.sameButLoad q) (b : Breaker) : q.breaker b = p.breaker b := by
  rw [h.1]
  rfl

theorem breakerFails_stoodDown (hd : p.stoodDown) (b : Breaker) : (breakerFails b p).stoodDown := by
  obtain ⟨v, hv⟩ := (p.setBreaker b { p.breaker b with failed := true }).raiseFlag_management .breakerFailed
  rw [breakerFails, hv]
  exact hd

/-- Where a breaker's entry times out while the part stands down, the Load Manager settles; then the fault and the
operate row are recorded. -/
theorem drains_timedOut {num : CmdNum} {b : Breaker} (he : p.entry num = some e) (hs : e.sent = true)
    (hdue : e.deadline.due = true) (hm : e.owner = .management) (hb : e.target = .breaker b)
    (ha : p.roleActive (.breaker b) = true) (hd : p.stoodDown) :
    let failed := breakerFails b ((p.dropEntry num).countSchedule (fun t => { t with timedOut := tick16 t.timedOut }))
    ∃ u n, n ≤ 17 ∧ Drains [.deadlineExpiry num] p u n ∧
      (operateEntry e .timedOut (failed.recordFault (p.timeoutFault e b))).sameButLoad u := by
  intro failed
  have hload : Settles (if (p.breaker b).failed then [] else [.load]) failed 14 := by
    split
    · exact settles_mono (settles_nil _) (by omega)
    · exact settles_load (breakerFails_stoodDown (by exact hd) b)
  obtain ⟨r, n, hn, hr, hsame⟩ := hload
  refine ⟨operateEntry e .timedOut (r.recordFault (p.timeoutFault e b)), n + 2 + 1, by omega, drains_cons ?_,
    operateEntry_sameButLoad (Part.sameButLoad_recordFault hsame _) e .timedOut⟩
  rw [runTask, deadlineExpiry_timedOut he hs hdue hb ha, List.append_nil]
  exact drains_append hr (drains_single rfl (drains_single (reportEntry_of_management hm ..) (drains_nil _)))

end

/-- Settles O52: what comes due joins the line and waits; a deadline's entry leaves, and its owner is told last. -/
theorem entriesComeDueAndTimeOut : Obligations.EntriesComeDueAndTimeOut := by
  refine ⟨fun s num hs => ⟨fun h => ?_, fun e he hq hd ht _ hslots hg => ?_⟩, ?_⟩
  · exact congrArg Host.Outcome.next (event_of_no_task hs (entryDue_not_due h))
  · have hwaits := drains_entryDue_waits he hq hd ht hslots hg
    refine ⟨_, congrArg Host.Outcome.next (event_eq hs hwaits (by omega)), hs, rfl, ?_, ?_, rfl⟩
    · rw [Part.refreshDue_entry, he, Option.map_some, Part.withDue_of_due hq (decide_eq_true ht), hd]
      rfl
    · change (s.part.schedule.entries.map s.part.withDue).map _ = _
      rw [List.map_map]
      refine List.map_congr_left fun e' _ => ?_
      obtain ⟨d, hd'⟩ := s.part.withDue_eq e'
      simp [hd']
  · intro s num e hs he
    have hnum := Part.num_of_entry he
    refine ⟨fun h => ?_, fun hsent hdue hm ha => ?_, fun b hsent hdue hm hb ha hd => ?_⟩
    · exact congrArg Host.Outcome.next (event_of_no_task hs (deadlineExpiry_not_due he h))
    · refine congrArg Host.Outcome.next (event_eq (n := 2) hs (drains_cons ?_) (by omega))
      rw [runTask, deadlineExpiry_unconfirmed he hsent hdue ha]
      exact drains_single (reportEntry_of_management hm ..) (drains_nil _)
    · obtain ⟨u, n, hn, hu, hsame⟩ := drains_timedOut he hsent hdue hm hb ha hd
      have hbound : 17 ≤ Config.eventBound := by decide
      rw [breakerFails, operateEntry_recordFault_raiseFlag] at hsame
      have hfault : s.part.timeoutFault e b =
          { blankFault .breakerTimeout with breaker := some b, position := some (s.part.breaker b).position } := by
        simp [Part.timeoutFault, entryFault, hb, hm]
      rw [hfault] at hsame
      have ⟨_, _, _, hcond⟩ := hsame
      refine ⟨_, congrArg Host.Outcome.next (event_of_drains hs hu (by omega)), hs, rfl, ?_, ?_, hsame⟩
      · rw [Part.sameButLoad_breaker hsame, Part.raiseFlag_breaker]
        change ((Part.setBreaker _ b _).breaker b).failed = true
        rw [Part.breaker_setBreaker, if_pos rfl]
      · rw [hcond _ rfl]
        exact Part.raiseFlag_condition_set ..

end Sys2Proof.Machine
end

section
/-! SUPPORT. What judging the load spares of a bus whose stages are at rest: the stages of the other bus may change and
its SHED be raised, and the conditions be set, and no more (R173, R178–R183). -/

namespace Sys2Proof.Machine

/-! ### What is spared -/

/-- A load stage that is what it was, but for shed stage timers that may have stopped. -/
def LoadStage.idledFrom (r old : LoadStage) : Prop :=
  r = old ∨ r = { old with freqTimer := .stopped, capTimer := .stopped }

theorem LoadStage.idledFrom_refl (r : LoadStage) : r.idledFrom r := .inl rfl

theorem LoadStage.idledFrom_trans {r s t : LoadStage} (h : s.idledFrom r) (h' : t.idledFrom s) : t.idledFrom r := by
  rcases h with rfl | rfl <;> rcases h' with rfl | rfl
  · exact .inl rfl
  all_goals exact .inr rfl

/-- The restoration stage is as it was. -/
theorem LoadStage.idledFrom.restoration {r old : LoadStage} (h : r.idledFrom old) :
    r.restore = old.restore ∧ r.settle = old.settle ∧ r.stagger = old.stagger ∧ r.raisedOn = old.raisedOn ∧
      r.lastCandidate = old.lastCandidate ∧ r.block = old.block := by
  rcases h with rfl | rfl <;> exact ⟨rfl, rfl, rfl, rfl, rfl, rfl⟩

/-- `q` differs from `p` in the load records only, and of those not in the stages of bus x beside its shed stage timers,
in no channel but SHED of the other bus, and in no condition that was set. -/
structure Part.Spares (p : Part) (x : Bus) (q : Part) : Prop where
  sameButLoad : p.sameButLoad q
  stage : (q.stage x).idledFrom (p.stage x)
  channel : ∀ c, (∀ y, y ≠ x → c ≠ .shed y) → q.channel c = p.channel c
  condition : ∀ f, (p.condition f).set = true → (q.condition f).set = true

section

variable {p q : Part} {x y : Bus}

theorem Part.Spares.refl (p : Part) (x : Bus) : p.Spares x p :=
  ⟨p.sameButLoad_refl, LoadStage.idledFrom_refl _, fun _ _ => rfl, fun _ h => h⟩

theorem Part.Spares.trans {r : Part} (h : p.Spares x q) (h' : q.Spares x r) : p.Spares x r where
  sameButLoad := Part.sameButLoad_trans h.sameButLoad h'.sameButLoad
  stage := LoadStage.idledFrom_trans h.stage h'.stage
  channel c hc := (h'.channel c hc).trans (h.channel c hc)
  condition f hf := h'.condition f (h.condition f hf)

theorem Part.spares_setStage_idled {v : LoadStage} (hv : v.idledFrom (p.stage x)) : p.Spares x (p.setStage x v) where
  sameButLoad := p.sameButLoad_setStage x v
  stage := by rwa [Part.stage_setStage, if_pos rfl]
  channel _ _ := rfl
  condition _ h := h

theorem Part.spares_setStage_other (hy : y ≠ x) (v : LoadStage) : p.Spares x (p.setStage y v) where
  sameButLoad := p.sameButLoad_setStage y v
  stage := by
    rw [Part.stage_setStage, if_neg hy.symm]
    exact LoadStage.idledFrom_refl _
  channel _ _ := rfl
  condition _ h := h

theorem Part.spares_raised_other (hy : y ≠ x) : p.Spares x (p.raised (.shed y)) where
  sameButLoad := p.sameButLoad_raised rfl
  stage := LoadStage.idledFrom_refl _
  channel c hc := by rw [Part.raised, Part.channel_setChannel, if_neg (hc y hy)]
  condition _ h := h

theorem Part.spares_raiseFlag {f : Flag} (hf : loadFlag f = true) : p.Spares x (p.raiseFlag f) := by
  obtain ⟨v, hv⟩ := p.raiseFlag_management f
  refine ⟨p.sameButLoad_raiseFlag hf, ?_, fun c _ => ?_, fun g hg => ?_⟩
  · rw [hv]
    exact LoadStage.idledFrom_refl _
  · rw [hv]
    rfl
  · unfold Part.raiseFlag
    dsimp only
    split
    · exact hg
    · rw [Part.condition_setCondition]
      split
      · rfl
      · exact hg

/-! ### Stages at rest -/

/-- Judging the stages of bus x again finds nothing to do: its shed stage stays RAISED or has no cause, and its
restoration stage works exactly while its conditions hold (R178, R179, R181, R183). -/
structure Part.LoadRests (p : Part) (x : Bus) : Prop where
  shed : (p.stage x).shed = .raised ∧ (p.livelyLeads x).isSome = true ∨
    (p.stage x).shed = .stopped ∧ p.frequencyCause x = false ∧ p.capacityCause x = false
  restore : p.restoreHolds x = true ↔ (p.stage x).restore ≠ .stopped

theorem Part.capacityCause_of_not_overloaded (h : p.overloaded x = false) : p.capacityCause x = false := by
  simp [Part.capacityCause, h]

/-- Restoration needs the shed stage in STOPPED (R181). -/
theorem Part.restoreHolds_stopped (h : p.restoreHolds x = true) : (p.stage x).shed = .stopped := by
  unfold Part.restoreHolds at h
  split at h
  · simp only [Bool.and_eq_true, beq_iff_eq] at h
    obtain ⟨⟨_, hshed⟩, _⟩ := h
    exact hshed
  · cases h

section

variable (h : p.sameButLoad q)
include h

theorem Part.livelyLeads_sameButLoad (x : Bus) : q.livelyLeads x = p.livelyLeads x := by
  rw [h.1]
  rfl

theorem Part.frequencyCause_sameButLoad (x : Bus) : q.frequencyCause x = p.frequencyCause x := by
  rw [h.1]
  rfl

theorem Part.capacityCause_sameButLoad (x : Bus) : q.capacityCause x = p.capacityCause x := by
  rw [h.1]
  rfl

/-- Of the load records, the conditions of restoration read the state of the shed stage only (R181). -/
theorem Part.restoreHolds_sameButLoad (hs : (q.stage x).shed = (p.stage x).shed) :
    q.restoreHolds x = p.restoreHolds x := by
  have hlively := Part.livelyLeads_sameButLoad h x
  have hfreq : q.frequency x = p.frequency x := by
    rw [h.1]
    rfl
  have hset : q.busSet x = p.busSet x := by
    rw [h.1]
    rfl
  have hgroups (i : Src) : (q.domainGroups i).any q.waits = (p.domainGroups i).any p.waits := by
    rw [h.1]
    rfl
  simp only [Part.restoreHolds, hlively, hfreq, hset, hgroups, hs]

theorem Part.loadRests_of_sameButLoad (hshed : (q.stage x).shed = (p.stage x).shed)
    (hrestore : (q.stage x).restore = (p.stage x).restore) (hr : p.LoadRests x) : q.LoadRests x where
  shed := by
    rw [hshed, Part.livelyLeads_sameButLoad h, Part.frequencyCause_sameButLoad h, Part.capacityCause_sameButLoad h]
    exact hr.shed
  restore := by
    rw [hrestore, Part.restoreHolds_sameButLoad h hshed]
    exact hr.restore

end

theorem Part.Spares.loadRests (h : p.Spares x q) (hr : p.LoadRests x) : q.LoadRests x := by
  refine Part.loadRests_of_sameButLoad h.sameButLoad ?_ ?_ hr <;> rcases h.stage with e | e <;> rw [e]

/-- Without a cause both shed stage timers stop (R178). -/
theorem Part.followShed_no_cause (hf : p.frequencyCause x = false) (hc : p.capacityCause x = false) (r : LoadStage) :
    p.followShed x r = { r with freqTimer := .stopped, capTimer := .stopped, shed := .stopped } := by
  simp [Part.followShed, hf, hc, Timer.follow, Timer.isRunning]

/-- A shed stage at rest is left, or its timers stop (R178). -/
theorem shedStage_at_rest (hr : p.LoadRests x) : ∃ q, shedStage x p = (q, []) ∧ p.Spares x q := by
  rcases hr.shed with ⟨hraised, hlively⟩ | ⟨hstopped, hf, hc⟩
  · exact ⟨p, if_pos ⟨hraised, hlively⟩, .refl p x⟩
  · refine ⟨p.setStage x (p.followShed x (p.stage x)), ?_, Part.spares_setStage_idled ?_⟩
    · simp [shedStage, hstopped, Part.followShed_no_cause hf hc]
    · rw [Part.followShed_no_cause hf hc, ← hstopped]
      exact .inr rfl

/-- A restoration stage at rest is left (R181, R183). -/
theorem restoreStage_at_rest (hr : p.LoadRests x) : restoreStage x p = (p, []) := by
  have hh := hr.restore
  cases hs : (p.stage x).restore <;> simp [restoreStage, hs] at hh ⊢ <;> simp [hh]

theorem restoreStage_spares_other (hy : y ≠ x) : p.Spares x (restoreStage y p).1 ∧ (restoreStage y p).2 = [] := by
  obtain ⟨v, h | h⟩ := restoreStage_only p y <;> rw [h]
  · exact ⟨Part.spares_setStage_other hy v, rfl⟩
  · exact ⟨.refl p x, rfl⟩

/-- The shed stage of a bus writes its own record only, and then perhaps raises SHED of that bus (R178, R179). -/
theorem shedStage_spares_other (hy : y ≠ x) :
    ∃ q, p.Spares x q ∧
      (shedStage y p = (q, []) ∨ shedStage y p = (q, [.raise (.shed y), .shedRaised y])) := by
  have hset (q : Part) (v : LoadStage) : q.Spares x (q.setStage y v) := Part.spares_setStage_other hy v
  unfold shedStage
  dsimp only
  split
  · exact ⟨p, .refl p x, .inl rfl⟩
  · split
    · exact ⟨_, (hset p _).trans (hset _ _), .inr rfl⟩
    · exact ⟨_, hset p _, .inl rfl⟩

/-- Whether or not it is judged for a take, a raise is tallied and makes an enabled channel pending (R85). -/
theorem raise_fst (c : Channel) (p : Part) : (raise c p).1 = p.raised c := by
  cases he : (p.channel c).enable <;> cases hp : (p.channel c).pending <;> simp [raise, Part.raised, he, hp]

/-- What a raise hands off. -/
theorem raise_told (c : Channel) (p : Part) : ∀ u ∈ (raise c p).2, u = .judgeTake ∨ u = .judgePreempt := by
  unfold raise
  dsimp only
  split <;> simp

end

/-! ### An event that reaches the Load Manager -/

/-- The hand-offs of an event that reaches the Load Manager, where SHED of bus x is not raised (R173). -/
inductive JudgesLoad (x : Bus) : Task → Prop where
  | load : JudgesLoad x .load
  | shedStage (y : Bus) : JudgesLoad x (.shedStage y)
  | capacityShort : JudgesLoad x .capacityShort
  | restoreStage (y : Bus) : JudgesLoad x (.restoreStage y)
  | raise {y : Bus} (hy : y ≠ x) : JudgesLoad x (.raise (.shed y))
  | shedRaised {y : Bus} (hy : y ≠ x) : JudgesLoad x (.shedRaised y)
  | judgeTake : JudgesLoad x .judgeTake
  | judgePreempt : JudgesLoad x .judgePreempt

/-- A hand-off does its part of the event within what is spared. -/
theorem JudgesLoad.runTask_spares {x : Bus} {t : Task} {p : Part} (ht : JudgesLoad x t) (hd : p.stoodDown)
    (hr : p.LoadRests x) : p.Spares x (runTask t p).1 ∧ ∀ u ∈ (runTask t p).2, JudgesLoad x u := by
  obtain ⟨hmode, hidle, _⟩ := hd
  cases ht with
  | load =>
    refine ⟨.refl p x, fun u hu => ?_⟩
    simp only [runTask, Sys2Proof.Machine.load, List.mem_cons, List.not_mem_nil, or_false] at hu
    rcases hu with rfl | rfl | rfl | rfl | rfl
    · exact .shedStage .a
    · exact .shedStage .b
    · exact .capacityShort
    · exact .restoreStage .a
    · exact .restoreStage .b
  | capacityShort =>
    simp only [runTask, Sys2Proof.Machine.capacityShort, List.not_mem_nil, false_imp_iff, implies_true, and_true]
    split
    · exact Part.spares_raiseFlag rfl
    · exact .refl p x
  | shedStage y =>
    rw [runTask]
    by_cases hy : y = x
    · subst hy
      obtain ⟨q, h, hq⟩ := shedStage_at_rest hr
      simp [h, hq]
    · obtain ⟨q, hq, h | h⟩ := shedStage_spares_other (p := p) hy <;> rw [h]
      · simp [hq]
      · simp [hq, JudgesLoad.raise hy, JudgesLoad.shedRaised hy]
  | restoreStage y =>
    rw [runTask]
    by_cases hy : y = x
    · subst hy
      simp [restoreStage_at_rest hr, Part.Spares.refl]
    · simp [restoreStage_spares_other hy]
  | raise hy =>
    refine ⟨?_, fun u hu => ?_⟩
    · rw [runTask, raise_fst]
      exact Part.spares_raised_other hy
    · rcases raise_told _ p u hu with rfl | rfl
      · exact .judgeTake
      · exact .judgePreempt
  | @shedRaised y hy =>
    rw [runTask, Sys2Proof.Machine.shedRaised]
    have ⟨hs, htold⟩ := restoreStage_spares_other (p := p.setStage y (p.stage y).stopRestore) hy
    exact ⟨(Part.spares_setStage_other hy _).trans hs, by simp [htold]⟩
  | judgeTake => simp [judgeTake_halted hmode, Part.Spares.refl]
  | judgePreempt => simp [judgePreempt_idle hidle, Part.Spares.refl]

/-- A law that hand-offs of one kind keep, which hand off only their kind where the law holds. -/
theorem drain_keeps_of_closed_under (K : Task → Prop) (P : Part → Prop)
    (h : ∀ t p, K t → P p → P (runTask t p).1 ∧ ∀ u ∈ (runTask t p).2, K u) :
    ∀ n ts p, (∀ u ∈ ts, K u) → P p → P (drain n ts p).1
  | 0, _, _, _, hp => hp
  | _ + 1, [], _, _, hp => hp
  | n + 1, t :: ts, p, hts, hp => by
    obtain ⟨ht, hrest⟩ := List.forall_mem_cons.mp hts
    obtain ⟨hp', htold⟩ := h t p ht hp
    exact drain_keeps_of_closed_under K P h n _ _ (List.forall_mem_append.mpr ⟨htold, hrest⟩) hp'

/-- An event that reaches the Load Manager while the part stands down, and finds the stages of bus x at rest (R173). -/
theorem drains_load_spares {p : Part} {x : Bus} (hd : p.stoodDown) (hr : p.LoadRests x) :
    ∃ q n, n ≤ 14 ∧ Drains [.load] p q n ∧ p.Spares x q := by
  obtain ⟨q, n, hn, hq, _⟩ := settles_load hd
  have hend : drain n [.load] p = (q, []) := by simpa using hq 0 []
  refine ⟨q, n, hn, hq, ?_⟩
  have hkeeps := drain_keeps_of_closed_under (JudgesLoad x) (p.Spares x) (fun t r ht hpr => ?_) n [.load] p
    (by simp [JudgesLoad.load]) (.refl p x)
  · rwa [hend] at hkeeps
  · have hrd : r.stoodDown := Part.stoodDown_of_sameButLoad hpr.sameButLoad hd
    obtain ⟨hs, htold⟩ := ht.runTask_spares hrd (hpr.loadRests hr)
    exact ⟨hpr.trans hs, htold⟩

/-- An event that comes, within so many hand-offs, to a part in which the load is judged. -/
theorem event_spares {s : State} {t : Task} {p : Part} {x : Bus} (hs : s.calm)
    (h : ∀ q n, Drains [.load] p q n → ∃ k, k ≤ n + 5 ∧ Drains [t] s.part q k) (hd : p.stoodDown)
    (hr : p.LoadRests x) :
    ∃ u, (Host.Outcome.next (s.event t) : Out) = .next u ∧ u.work = [] ∧ u.pending = s.pending ∧ p.Spares x u.part := by
  obtain ⟨q, n, hn, hq, hspares⟩ := drains_load_spares hd hr
  obtain ⟨k, hk, ht⟩ := h q n hq
  have hbound : 19 ≤ Config.eventBound := by decide
  exact ⟨_, congrArg Host.Outcome.next (event_of_drains hs ht (by omega)), hs, rfl, hspares⟩

/-- A hand-off that raises a channel while no take can follow, before others (R85). -/
theorem drains_raise_then {t : Task} {ts : List Task} {c : Channel} {p q u : Part} {n : Nat} (hd : q.stoodDown)
    (ht : runTask t p = (q, .raise c :: ts)) (h : Drains ts (q.raised c) u n) :
    ∃ k, k ≤ n + 4 ∧ Drains [t] p u k := by
  obtain ⟨hmode, hidle, _⟩ := hd
  obtain ⟨k, hk, hraise⟩ := drains_raise hmode hidle c h
  refine ⟨k + 1, by omega, drains_cons ?_⟩
  rw [ht, List.append_nil]
  exact hraise

end Sys2Proof.Machine
end

section
/-! PROOF. O58: the stage timers raise SHED. -/

namespace Sys2Proof.Machine

section

variable {p : Part} {x : Bus}

/-- SHED of bus x is raised by its shed stage, and its restoration stage has stopped (R179). -/
def Part.shedRaisedBy (p : Part) (x : Bus) : Part :=
  (p.raised (.shed x)).setStage x
    { p.stage x with
      shed := .raised
      freqTimer := .stopped
      capTimer := .stopped
      restore := .stopped
      settle := .stopped
      stagger := .stopped
      raisedOn := none }

theorem Part.shedRaisedBy_stage : (p.shedRaisedBy x).stage x =
    { p.stage x with
      shed := .raised
      freqTimer := .stopped
      capTimer := .stopped
      restore := .stopped
      settle := .stopped
      stagger := .stopped
      raisedOn := none } := by
  rw [Part.shedRaisedBy, Part.stage_setStage, if_pos rfl]

theorem Part.sameButLoad_shedRaisedBy (p : Part) (x : Bus) : p.sameButLoad (p.shedRaisedBy x) :=
  Part.sameButLoad_trans (p.sameButLoad_raised rfl) (Part.sameButLoad_setStage ..)

/-- A stage that is RAISED does not restore (R181). -/
theorem Part.not_restoreHolds_shedRaisedBy : (p.shedRaisedBy x).restoreHolds x = false := by
  refine eq_false_of_ne_true fun h => ?_
  have hshed := Part.restoreHolds_stopped h
  rw [Part.shedRaisedBy_stage] at hshed
  cases hshed

theorem Part.loadRests_shedRaisedBy (h : (p.livelyLeads x).isSome = true) : (p.shedRaisedBy x).LoadRests x where
  shed := by
    rw [Part.shedRaisedBy_stage]
    exact .inl ⟨rfl, h⟩
  restore := by simp [Part.not_restoreHolds_shedRaisedBy, Part.shedRaisedBy_stage]

/-- The restoration stage stops, and the RAISED shed stage keeps it from starting again (R179, step 3). -/
theorem shedRaised_of_raised : shedRaised x ((shedNow x p).1.raised (.shed x)) = (p.shedRaisedBy x, []) := by
  have hstop : ((shedNow x p).1.raised (.shed x)).setStage x
      (((shedNow x p).1.raised (.shed x)).stage x).stopRestore = p.shedRaisedBy x := by cases x <;> rfl
  rw [shedRaised, hstop]
  simp [restoreStage, Part.shedRaisedBy_stage, Part.not_restoreHolds_shedRaisedBy]

/-- The expiry of a shed stage timer, up to its judging the load (R179). -/
theorem drains_shedNow {t : Task} (hd : p.stoodDown)
    (ht : runTask t p = ((shedNow x p).1, (shedNow x p).2 ++ [.load])) (q : Part) (n : Nat)
    (h : Drains [.load] (p.shedRaisedBy x) q n) : ∃ k, k ≤ n + 5 ∧ Drains [t] p q k :=
  drains_raise_then (by exact hd) ht (drains_single (by rw [runTask, shedRaised_of_raised]) h)

end

/-- Settles O58: SHED is raised and the restoration stage stops, and judging the load then spares both. -/
theorem stageTimersRaiseShed : Obligations.StageTimersRaiseShed := by
  intro s x hs r shed
  have hexpires {t : Task} (hd : s.part.stoodDown) (hlively : (s.part.livelyLeads x).isSome = true)
      (ht : runTask t s.part = ((shedNow x s.part).1, (shedNow x s.part).2 ++ [.load])) :
      ∃ u, (Host.Outcome.next (s.event t) : Out) = .next u ∧ shed u := by
    obtain ⟨u, hu, hwork, hpending, hspares⟩ := event_spares hs (drains_shedNow hd ht)
      (Part.stoodDown_of_sameButLoad (s.part.sameButLoad_shedRaisedBy x) hd) (Part.loadRests_shedRaisedBy hlively)
    refine ⟨u, hu, hwork, hpending, ?_, hspares.channel _ fun y hy h => hy (Channel.shed.inj h).symm,
      Part.sameButLoad_trans (s.part.sameButLoad_shedRaisedBy x) hspares.sameButLoad⟩
    rcases hspares.stage with h | h <;> rw [h, Part.shedRaisedBy_stage]
  refine ⟨fun h => ?_, fun h => ?_,
    fun hd hlively => ⟨fun h => hexpires hd hlively ?_, fun h => hexpires hd hlively ?_⟩⟩
  · exact congrArg Host.Outcome.next (event_of_no_task hs (if_neg (ne_true_of_eq_false h)))
  · exact congrArg Host.Outcome.next (event_of_no_task hs (if_neg (ne_true_of_eq_false h)))
  · exact if_pos h
  · exact if_pos h

end Sys2Proof.Machine
end

section
/-! PROOF. O59: the settle and stagger timers bring load back or block it. -/

namespace Sys2Proof.Machine

section

variable {p q : Part} {x : Bus} {i : Src} {g : Grp}

/-- The stages of bus x are at rest in a restoration whose conditions hold and that no cause to shed meets (R178,
R181). -/
theorem Part.loadRests_restoring (hh : p.restoreHolds x = true) (hf : p.frequencyCause x = false)
    (ho : p.overloaded x = false) (h : p.sameButLoad q) (hshed : (q.stage x).shed = (p.stage x).shed)
    (hrestore : (q.stage x).restore ≠ .stopped) : q.LoadRests x where
  shed := by
    rw [hshed, Part.frequencyCause_sameButLoad h, Part.capacityCause_sameButLoad h]
    exact .inr ⟨Part.restoreHolds_stopped hh, hf, Part.capacityCause_of_not_overloaded ho⟩
  restore := by simp [Part.restoreHolds_sameButLoad h hshed, hh, hrestore]

theorem settleExpiry_settling (h : (p.stage x).settle.due = true) (hs : (p.stage x).restore = .settling) :
    settleExpiry x p = (p.setStage x ((p.stage x).startStagger (p.busSet x).stagger), [.load]) :=
  (if_pos h).trans (if_pos hs)

/-- The restore candidate is judged, and then the load (R173, R182). -/
theorem staggerExpiry_staggering (h : (p.stage x).stagger.due = true) (hs : (p.stage x).restore = .staggering) :
    staggerExpiry x p = ((judgeCandidate x p).1, (judgeCandidate x p).2 ++ [.load]) :=
  (if_pos h).trans (if_pos hs)

/-- A restoration stage that has raised RESTORE of bus y for a group (R182). -/
def LoadStage.raiseRestore (r : LoadStage) (y : Bus) (g : Grp) : LoadStage :=
  { r with restore := .raised, stagger := .stopped, raisedOn := some y, lastCandidate := some g, block := .none }

/-- RESTORE of a group's bus is raised by the restoration stage of bus x (R182). -/
def Part.restoreRaisedBy (p : Part) (x : Bus) (g : Grp) : Part :=
  (p.setStage x ((p.stage x).raiseRestore (p.groupBus g) g)).raised (.restore (p.groupBus g))

theorem Part.restoreRaisedBy_stage :
    (p.restoreRaisedBy x g).stage x = (p.stage x).raiseRestore (p.groupBus g) g :=
  (Part.stage_setStage ..).trans (if_pos rfl)

theorem Part.sameButLoad_restoreRaisedBy (p : Part) (x : Bus) (g : Grp) : p.sameButLoad (p.restoreRaisedBy x g) :=
  Part.sameButLoad_trans (p.sameButLoad_setStage x _) (Part.sameButLoad_raised _ rfl)

/-- A restore candidate that is not UNAVAILABLE and fits has RESTORE of its bus raised (R182). -/
theorem judgeCandidate_fits (hi : p.leads x = some i) (hg : p.restoreCandidate i = some g)
    (ha : p.groupState g ≠ .unavailable) (hfit : ((p.group g).demand : Int) ≤ p.headroom i) :
    judgeCandidate x p =
      (p.setStage x ((p.stage x).raiseRestore (p.groupBus g) g), [.raise (.restore (p.groupBus g))]) := by
  simp [judgeCandidate, hi, hg, ha, hfit, LoadStage.raiseRestore]

/-- A restore candidate that is UNAVAILABLE, or else does not fit, blocks the stage (R182). -/
theorem judgeCandidate_blocked (hi : p.leads x = some i) (hg : p.restoreCandidate i = some g)
    (hb : p.groupState g = .unavailable ∨ p.headroom i < ((p.group g).demand : Int)) :
    judgeCandidate x p =
      (restoreBlocked x g (if p.groupState g = .unavailable then .unavailable else .noFit) p, []) := by
  by_cases ha : p.groupState g = .unavailable
  · simp [judgeCandidate, hi, hg, ha]
  · simp [judgeCandidate, hi, hg, ha, hb.resolve_left ha]

theorem restoreBlocked_stage (reason : BlockReason) :
    (restoreBlocked x g reason p).stage x =
      { (p.stage x).startStagger (p.busSet x).stagger with block := reason, lastCandidate := some g } := by
  obtain ⟨v, hv⟩ := Part.raiseFlag_management (p.setStage x
    { (p.stage x).startStagger (p.busSet x).stagger with block := reason, lastCandidate := some g }) .restoreBlocked
  rw [restoreBlocked, hv]
  exact (Part.stage_setStage ..).trans (if_pos rfl)

theorem Part.sameButLoad_restoreBlocked (p : Part) (x : Bus) (g : Grp) (reason : BlockReason) :
    p.sameButLoad (restoreBlocked x g reason p) :=
  Part.sameButLoad_trans (p.sameButLoad_setStage x _) (Part.sameButLoad_raiseFlag _ rfl)

/-- A hand-off that changes the part and then has the load judged. -/
theorem drains_then_load {t : Task} (ht : runTask t p = (q, [.load])) (u : Part) (n : Nat) (h : Drains [.load] q u n) :
    ∃ k, k ≤ n + 5 ∧ Drains [t] p u k := by
  refine ⟨n + 1, by omega, drains_cons ?_⟩
  rw [ht]
  exact h

/-- A hand-off in which the stage raises RESTORE, up to its judging the load (R182). -/
theorem drains_restoreRaisedBy {t : Task} (hd : p.stoodDown)
    (ht : runTask t p = (p.setStage x ((p.stage x).raiseRestore (p.groupBus g) g),
      [.raise (.restore (p.groupBus g)), .load])) (u : Part) (n : Nat)
    (h : Drains [.load] (p.restoreRaisedBy x g) u n) : ∃ k, k ≤ n + 5 ∧ Drains [t] p u k := by
  obtain ⟨k, hk, hdrains⟩ := drains_raise_then (by exact hd) ht h
  exact ⟨k, by omega, hdrains⟩

end

/-- An event that changes the stage of a bus in restoration, which judging the load then finds at rest (R178, R181). -/
theorem event_restoring {s : State} {t : Task} {p : Part} {x : Bus} {v : LoadStage} (hs : s.calm)
    (hd : s.part.stoodDown) (hh : s.part.restoreHolds x = true) (hf : s.part.frequencyCause x = false)
    (ho : s.part.overloaded x = false)
    (h : ∀ q n, Drains [.load] p q n → ∃ k, k ≤ n + 5 ∧ Drains [t] s.part q k) (hstage : p.stage x = v)
    (hshed : v.shed = (s.part.stage x).shed) (hrestore : v.restore ≠ .stopped) (hsame : s.part.sameButLoad p) :
    ∃ u, (Host.Outcome.next (s.event t) : Out) = .next u ∧ u.work = [] ∧ u.pending = s.pending ∧
      (u.part.stage x).idledFrom v ∧ p.Spares x u.part ∧ s.part.sameButLoad u.part := by
  subst hstage
  obtain ⟨u, hu, hwork, hpending, hspares⟩ := event_spares hs h (Part.stoodDown_of_sameButLoad hsame hd)
    (Part.loadRests_restoring hh hf ho hsame hshed hrestore)
  exact ⟨u, hu, hwork, hpending, hspares.stage, hspares, Part.sameButLoad_trans hsame hspares.sameButLoad⟩

/-- Settles O59: each expiry changes the stage of its bus, which judging the load then finds at rest. -/
theorem restorationTimersBringLoadBack : Obligations.RestorationTimersBringLoadBack := by
  intro s x hs r time
  refine ⟨fun h => ?_, fun h => ?_, fun hd hh hf ho => ⟨fun hdue hsettling => ?_, fun i g hdue hstaggering hi hg => ?_⟩⟩
  · exact congrArg Host.Outcome.next (event_of_no_task hs (if_neg (ne_true_of_eq_false h)))
  · exact congrArg Host.Outcome.next (event_of_no_task hs (if_neg (ne_true_of_eq_false h)))
  · obtain ⟨u, hu, hwork, hpending, hstage, _, hsame⟩ := event_restoring hs hd hh hf ho
      (drains_then_load (t := .settleExpiry x) (settleExpiry_settling hdue hsettling))
      ((Part.stage_setStage ..).trans (if_pos rfl)) rfl nofun (Part.sameButLoad_setStage ..)
    obtain ⟨hrestore, hsettle, hstagger, _⟩ := hstage.restoration
    exact ⟨u, hu, hwork, hpending, hrestore, hsettle, hstagger, hsame⟩
  have hrun {q : Part} {ts : List Task} (h : judgeCandidate x s.part = (q, ts)) :
      runTask (.staggerExpiry x) s.part = (q, ts ++ [.load]) := by
    rw [runTask, staggerExpiry_staggering hdue hstaggering, h]
  refine ⟨fun ha hfit => ?_, fun hb => ?_⟩
  · obtain ⟨u, hu, hwork, hpending, hstage, hspares, hsame⟩ := event_restoring hs hd hh hf ho
      (drains_restoreRaisedBy hd (hrun (judgeCandidate_fits hi hg ha hfit))) Part.restoreRaisedBy_stage rfl nofun
      (Part.sameButLoad_restoreRaisedBy ..)
    obtain ⟨hrestore, _, _, hraised, hlast, hblock⟩ := hstage.restoration
    exact ⟨u, hu, hwork, hpending, hrestore, hraised, hlast, hblock, hspares.channel _ fun _ _ => nofun, hsame⟩
  · obtain ⟨u, hu, hwork, hpending, hstage, hspares, hsame⟩ := event_restoring hs hd hh hf ho
      (drains_then_load (hrun (judgeCandidate_blocked hi hg hb))) (restoreBlocked_stage _) rfl nofun
      (Part.sameButLoad_restoreBlocked ..)
    obtain ⟨hrestore, _, hstagger, _, hlast, hblock⟩ := hstage.restoration
    exact ⟨u, hu, hwork, hpending, hrestore, hstagger, hlast, hblock,
      hspares.condition _ (Part.raiseFlag_condition_set ..), hsame⟩

end Sys2Proof.Machine
end

section
/-! PROOF. O33: IDENTIFY, READ_ROWS and what is no request of the list are counted and answered. -/

namespace Sys2Proof.Machine

/-! ### READ_ROWS by its tests (R188) -/

section

variable {table first count n : Nat}

theorem readRefusal_of_no_table (h : tableRows table = none) : readRefusal table first count = some .value := by
  simp only [readRefusal, h]

theorem readRefusal_of_count_out (h : tableRows table = some n) (hc : count = 0 ∨ 8 < count) :
    readRefusal table first count = some .value := by
  have hw : within 1 8 count = false := by
    simp only [within, Bool.and_eq_false_iff, decide_eq_false_iff_not]
    omega
  simp [readRefusal, h, hw]

/-- With a table and a count in range, only the rows named decide. -/
theorem readRefusal_of_count_in (h : tableRows table = some n) (hlo : 1 ≤ count) (hhi : count ≤ 8) :
    readRefusal table first count = if first = 0 ∨ n < first + count - 1 then some .row else none := by
  simp [readRefusal, h, within, hlo, hhi]

theorem readRows_refused {m : Sender} {p : Part} {why : RefusedReason}
    (h : readRefusal table first count = some why) : readRows m table first count p = refused m why p := by
  simp only [readRows, h]

theorem readRows_answered {m : Sender} {p : Part} (h : readRefusal table first count = none) :
    readRows m table first count p = (p, [.respond m .done (p.readRows table first count)]) := by
  simp only [readRows, h, answered, List.nil_append]

end

/-- Settles O33: each request is answered with no effect, READ_ROWS by the first of its tests that fails. -/
theorem questionsAreOnlyAnswered : Obligations.QuestionsAreOnlyAnswered := by
  intro m s hs hr
  have hanswer := Part.countRequest_rests hr
  have hrefused {table first count : Nat} {why : RefusedReason} (h : readRefusal table first count = some why) :
      exec (.readRows m table first count) s = .next { s with part := s.part.onlyAnswers m (.refused why) [] } :=
    requestEvent_refused (r := .readRows table first count) hs hr (readRows_refused h)
  refine ⟨?identify, requestEvent_refused (r := .unknown) hs hr rfl, ?foreign,
    fun table first count hno => hrefused (readRefusal_of_no_table hno),
    fun table first count n hn => ⟨fun hc => hrefused (readRefusal_of_count_out hn hc),
      fun hlo hhi hrow => hrefused ((readRefusal_of_count_in hn hlo hhi).trans (if_pos hrow)),
      fun hlo hhi hfirst hlast => ?rows⟩⟩
  case identify => exact congrArg Host.Outcome.next (requestEvent_of_answer (r := .identify) hs hanswer rfl)
  case foreign => exact congrArg Host.Outcome.next (stationEvent_of_no_task hs rfl)
  case rows =>
    have hpass : readRefusal table first count = none :=
      (readRefusal_of_count_in hn hlo hhi).trans (if_neg (by omega))
    exact congrArg Host.Outcome.next
      (requestEvent_of_answer (r := .readRows table first count) hs hanswer (readRows_answered hpass))

end Sys2Proof.Machine
end

section
/-! PROOF. O44: the fault tallies, and CLEAR_FAULTS. -/

namespace Sys2Proof.Machine

/-- Where a fault is stored does not touch the tallies; its kind's tally counts it (R193, R194). -/
theorem FaultLog.record_tallies (log : FaultLog) (r : FaultRecord) :
    (log.record r).tallies =
      log.tallies.set (faultIdx r.kind) (log.tallies.get (faultIdx r.kind)).countOne := by
  unfold FaultLog.record
  dsimp only
  repeat' split
  all_goals rfl

theorem FaultTally.countOne_eq (t : FaultTally) :
    t.countOne = if t.count < 255 then ⟨t.count + 1, t.overflow⟩ else ⟨t.count, true⟩ := by
  unfold FaultTally.countOne
  by_cases h : t.count < 255
  · rw [if_pos h, if_neg (Nat.not_le.mpr h)]
  · rw [if_neg h, if_pos (Nat.not_lt.mp h)]

theorem rowAt_val {α : Type} {n : Nat} (v : Vector α n) (i : Fin n) : rowAt v (i.val + 1) = some (v.get i) := by
  rw [rowAt, indexOf_val, Option.map_some]

/-- Settles O44: a fault's tally is its kind's, and an emptied log takes the next fault in its first slot. -/
theorem clearFaultsEmptiesTheLog : Obligations.ClearFaultsEmptiesTheLog := by
  refine ⟨fun log r i => ?tally, fun m s hs hr => ?clear, fun p i => ?row, fun r => ⟨rfl, rfl, rfl⟩, fun _ => rfl,
    fun _ => rfl⟩
  case tally =>
    rw [FaultLog.record_tallies, get_set]
    split
    case isTrue h => rw [h, FaultTally.countOne_eq]
    case isFalse => rfl
  case clear => exact congrArg Host.Outcome.next (requestEvent_of_answer (r := .clearFaults) hs hr rfl)
  case row => rw [Part.readRow, rowAt_val, Option.map_some]

end Sys2Proof.Machine
end

section
/-! PROOF. O43: ACK_CONDITIONS clears the named flags and sets again those whose standing causes hold. -/

namespace Sys2Proof.Machine

section

variable {p q : Part}

/-! ### One flag cleared or set (R191, R192) -/

/-- A condition record after its owner sets the flag at `now` (R191). -/
def ConditionRecord.raisedAt (now : Nat) (c : ConditionRecord) : ConditionRecord :=
  if c.set then c else ⟨true, some now, tick16 c.tally⟩

/-- A condition record after ACK_CONDITIONS clears the flag (R192). -/
def ConditionRecord.cleared (c : ConditionRecord) : ConditionRecord := { c with set := false }

theorem ConditionRecord.raisedAt_of_clear {c : ConditionRecord} (now : Nat) (h : c.set = false) :
    c.raisedAt now = ⟨true, some now, min 65535 (c.tally + 1)⟩ := if_neg (ne_true_of_eq_false h)

theorem ConditionRecord.raisedAt_raisedAt (now : Nat) (c : ConditionRecord) :
    (c.raisedAt now).raisedAt now = c.raisedAt now := by
  have hset : (c.raisedAt now).set = true := by
    unfold ConditionRecord.raisedAt
    split
    · assumption
    · rfl
  exact if_pos hset

/-- `op` on a flag does `u` to that flag's record, at the station time that stands, and changes nothing else. -/
def ActsOnFlags (op : Part → Flag → Part) (u : Nat → ConditionRecord → ConditionRecord) : Prop :=
  ∀ p f, p.sameButConditions (op p f) ∧
    ∀ g, (op p f).condition g = if g = f then u p.now (p.condition g) else p.condition g

theorem raiseFlag_actsOnFlags : ActsOnFlags Part.raiseFlag (fun now c => c.raisedAt now) := by
  intro p f
  unfold Part.raiseFlag ConditionRecord.raisedAt
  dsimp only
  by_cases hset : (p.condition f).set = true
  · rw [if_pos hset]
    refine ⟨.refl p, fun g => ?_⟩
    by_cases hg : g = f
    · rw [if_pos hg, hg, if_pos hset]
    · rw [if_neg hg]
  · rw [if_neg hset]
    refine ⟨rfl, fun g => ?_⟩
    rw [Part.condition_setCondition]
    by_cases hg : g = f
    · rw [if_pos hg, if_pos hg, hg, if_neg hset]
    · rw [if_neg hg, if_neg hg]

theorem clearFlag_actsOnFlags : ActsOnFlags Part.clearFlag (fun _ c => c.cleared) := by
  intro p f
  refine ⟨rfl, fun g => ?_⟩
  rw [Part.clearFlag, Part.condition_setCondition]
  by_cases hg : g = f
  · rw [if_pos hg, if_pos hg, hg]
    rfl
  · rw [if_neg hg, if_neg hg]

/-- A list of flags acted on in turn: each flag of the list once, however often it is named. -/
theorem ActsOnFlags.foldl {op : Part → Flag → Part} {u : Nat → ConditionRecord → ConditionRecord}
    (h : ActsOnFlags op u) (hu : ∀ now c, u now (u now c) = u now c) (fs : List Flag) (p : Part) :
    p.sameButConditions (fs.foldl op p) ∧
      ∀ g, (fs.foldl op p).condition g = if g ∈ fs then u p.now (p.condition g) else p.condition g := by
  induction fs generalizing p with
  | nil => exact ⟨.refl p, fun g => (if_neg List.not_mem_nil).symm⟩
  | cons f fs ih =>
    obtain ⟨hsame, hcond⟩ := h p f
    obtain ⟨hsames, hconds⟩ := ih (op p f)
    have hnow : (op p f).now = p.now := congrArg (·.now) hsame
    refine ⟨hsame.trans hsames, fun g => ?_⟩
    rw [List.foldl_cons, hconds, hcond, hnow]
    by_cases hg : g = f <;> by_cases hmem : g ∈ fs <;> simp [hg, hmem, hu]

/-! ### The answer to ACK_CONDITIONS (R192) -/

/-- The flags that ACK_CONDITIONS sets again: the named ones whose standing causes hold (R192). -/
def Part.setAgain (p : Part) (flags : List (Option Flag)) : List Flag :=
  allFlags.filter (fun f => flags.contains (some f) && p.standing f)

/-- The part after ACK_CONDITIONS clears the named flags and sets again those of `setAgain` (R192). -/
def Part.acknowledged (p : Part) (flags : List (Option Flag)) : Part :=
  (p.setAgain flags).foldl Part.raiseFlag
    ((allFlags.filter (fun f => flags.contains (some f))).foldl Part.clearFlag p)

theorem Part.mem_setAgain {flags : List (Option Flag)} {f : Flag} :
    f ∈ p.setAgain flags ↔ some f ∈ flags ∧ p.standing f = true := by
  simp [Part.setAgain, mem_allFlags]

theorem requestAck_refused {m : Sender} {flags : List (Option Flag)} (h : none ∈ flags) :
    requestAck m flags p = refused m .value p := by
  rw [requestAck, if_pos (List.contains_iff_mem.mpr h)]

theorem requestAck_done {m : Sender} {flags : List (Option Flag)} (h : none ∉ flags) :
    requestAck m flags p = (p.acknowledged flags, [.respond m .done [.setAgain (p.setAgain flags)]]) := by
  have hagain : (allFlags.filter (fun f => flags.contains (some f))).filter p.standing = p.setAgain flags := by
    rw [List.filter_filter, Part.setAgain]
    exact List.filter_congr fun f _ => Bool.and_comm ..
  have hnone : ¬ flags.contains none = true := fun hc => h (List.contains_iff_mem.mp hc)
  rw [requestAck, if_neg hnone]
  simp only [hagain, answered, List.nil_append, Part.acknowledged]

/-- Each named flag is cleared, and raised where its standing cause holds; nothing but the records is touched. -/
theorem Part.acknowledged_condition (p : Part) (flags : List (Option Flag)) :
    p.sameButConditions (p.acknowledged flags) ∧
      ∀ f, (p.acknowledged flags).condition f =
        if some f ∈ flags then
          if p.standing f = true then (p.condition f).cleared.raisedAt p.now else (p.condition f).cleared
        else p.condition f := by
  obtain ⟨hclear, hcleared⟩ := clearFlag_actsOnFlags.foldl (fun _ _ => rfl)
    (allFlags.filter (fun f => flags.contains (some f))) p
  obtain ⟨hraise, hraised⟩ := raiseFlag_actsOnFlags.foldl ConditionRecord.raisedAt_raisedAt (p.setAgain flags)
    ((allFlags.filter (fun f => flags.contains (some f))).foldl Part.clearFlag p)
  refine ⟨hclear.trans hraise, fun f => ?_⟩
  have hnow : ((allFlags.filter (fun f => flags.contains (some f))).foldl Part.clearFlag p).now = p.now :=
    congrArg (·.now) hclear
  rw [Part.acknowledged, hraised, hcleared, hnow]
  by_cases hf : some f ∈ flags
  · simp [Part.mem_setAgain, mem_allFlags, hf]
  · simp [Part.mem_setAgain, hf]

theorem Part.sameButConditions_answerWith (h : p.sameButConditions q) (m : Sender) (a : Answer)
    (rows : List RowData) : (p.answerWith m a rows).sameButConditions (q.answerWith m a rows) := by
  unfold Part.sameButConditions at h
  generalize q.management.conditions = v at h
  subst h
  rfl

/-- An answer moves no standing cause: none rests on the transmit sequence, the ports or the request tallies (R191). -/
theorem Part.onlyAnswers_standing (p : Part) (m : Sender) (a : Answer) (rows : List RowData) (f : Flag) :
    (p.onlyAnswers m a rows).standing f = p.standing f := by
  cases f <;> rfl

theorem Part.countRequest_standing (p : Part) (f : Flag) : p.countRequest.standing f = p.standing f := by
  cases f <;> rfl

end

/-- Settles O43: the answer leaves the records as the acknowledged part has them. -/
theorem ackClearsTheNamedConditions : Obligations.AckClearsTheNamedConditions := by
  refine ⟨fun m s flags hs hr => ⟨fun hnone => ?_, fun hnone => ?_⟩, fun _ => rfl, fun p f hclear => ?_⟩
  · exact requestEvent_refused (r := .ackConditions flags) hs hr (requestAck_refused hnone)
  · obtain ⟨hsame, hcond⟩ := s.part.countRequest.acknowledged_condition flags
    have hagain : s.part.countRequest.setAgain flags = s.part.setAgain flags := by
      simp only [Part.setAgain, Part.countRequest_standing]
    have hrests : (s.part.countRequest.acknowledged flags).linkRests :=
      Part.linkRests_of_ports (p := s.part) (congrArg (·.link.ports) hsame) hr
    have hdone := Part.sameButConditions_answerWith hsame m .done [.setAgain (s.part.setAgain flags)]
    refine ⟨_, congrArg Host.Outcome.next (requestEvent_of_answer (r := .ackConditions flags) hs hrests
        ((requestAck_done hnone).trans (by rw [hagain]))), hs.1, rfl, hdone,
      fun f hf => ?_, fun f hf hstands => ?_, fun f hf hstands => ?_,
      fun f => (hdone.standing f).trans (s.part.onlyAnswers_standing ..)⟩
    · exact (hcond f).trans (if_neg hf)
    · rw [← Part.countRequest_standing] at hstands
      exact (hcond f).trans ((if_pos hf).trans (if_neg (ne_true_of_eq_false hstands)))
    · rw [← Part.countRequest_standing] at hstands
      exact (hcond f).trans ((if_pos hf).trans
        ((if_pos hstands).trans (ConditionRecord.raisedAt_of_clear s.part.now rfl)))
  · obtain ⟨_, hraised⟩ := raiseFlag_actsOnFlags p f
    exact (hraised f).trans ((if_pos rfl).trans (ConditionRecord.raisedAt_of_clear p.now hclear))

end Sys2Proof.Machine
end

section
/-! PROOF. O1 and O2: what a step does with a command that waits, and that every command completes. -/

namespace Sys2Proof.Machine

/-- With a command waiting, a step carries it out on the state that holds the rest of the queue; `step_idle` is the
other half. -/
theorem step_of_front {s : State} {c : Instr} {rest : List Instr} (h : s.pending = c :: rest) :
    step s = exec c { s with pending := rest } := by
  unfold step
  rw [h]

/-- Settles O1: the queue's front is the command put there. -/
theorem stepTakesTheFrontCommand : Obligations.StepTakesTheFrontCommand := fun _ _ _ => step_of_front rfl

@[simp] theorem State.event_pending (s : State) (t : Task) : (s.event t).pending = s.pending := rfl

@[simp] theorem State.stationEvent_pending (s : State) (t : Task) : (s.stationEvent t).pending = s.pending := by
  unfold State.stationEvent
  split <;> rfl

/-- A command that is not a station's is POWER_ON, or begins one hand-off in every part. -/
theorem exec_not_forStation {c : Instr} (h : forStation c = false) :
    (∃ straps, c = .powerOn straps) ∨ ∃ t, ∀ s, exec c s = .next (s.event t) := by
  cases c
  case powerOn straps => exact .inl ⟨straps, rfl⟩
  case frameReceived | portUp | portDown | transmitEnd | silenceExpiry | holdoverExpiry | slewInstant | pickupExpiry
      | unplannedParallelExpiry | deadConfirmExpiry | returnTimerExpiry | waitdeadTimeout | dwellExpiry
      | waithealthyTimeout | guardExpiry | syncTimeLimitExpiry | entryDue | operateDeadlineExpiry | frequencyStageExpiry
      | capacityStageExpiry | settleExpiry | staggerExpiry | statusTimerExpiry => exact .inr ⟨_, fun _ => rfl⟩
  all_goals cases h

/-- Settles O2: a command is POWER_ON, which writes the part and the hand-offs only, or an event, which works through
hand-offs and leaves the queue. -/
theorem everyCommandCompletes : Obligations.EveryCommandCompletes := by
  intro c s
  cases hc : forStation c with
  | true =>
    obtain ⟨t, ht⟩ := exec_forStation hc
    exact ⟨_, ht s, s.stationEvent_pending t⟩
  | false =>
    obtain ⟨straps, rfl⟩ | ⟨t, ht⟩ := exec_not_forStation hc
    · exact ⟨_, rfl, rfl⟩
    · exact ⟨_, ht s, s.event_pending t⟩

end Sys2Proof.Machine
end
